-- ==== Sys2Proof/Word.lean ====
section
/-! DEFINITION. The word types of the part (00_scope.md, 11_formats.md R187). -/

namespace Sys2Proof

/-- One byte of a link message or of request data. -/
abbrev Byte := BitVec 8

/-- One word of the management port (R175). -/
abbrev Word := BitVec 32

/-- A byte address of the 48-bit input space (R1). -/
abbrev InAddr := BitVec 48

/-- A byte address of a target's 64-bit space (R1). -/
abbrev TgtAddr := BitVec 64

end Sys2Proof
end

