-- ==== Sys2Proof/Config.lean ====
section
/-! DEFINITION. What the part fixes once (00_scope.md Key figures, R161, R170, R177). The spec leaves no value open, so
there is no free value here (log 21). -/

namespace Sys2Proof.Config

/-- Data credits the part grants in every HELLO (R161). -/
abbrev dataCredits : Nat := 12

/-- Control credits the part grants in every HELLO (R161). -/
abbrev ctlCredits : Nat := 2

/-- Entries of the in-band queue (R122). -/
abbrev inbandCapacity : Nat := 6

/-- Longest data request in bytes (R54). -/
abbrev maxLength : Nat := 512

/-- HELLO resend interval in microseconds: 1 ms (R161). -/
abbrev helloPeriod : Nat := 1000

/-- Link reset handshake timeout in microseconds: 10 ms (R170). -/
abbrev handshakePeriod : Nat := 10000

/-- The completion timeout setting after power-on and device reset, in microseconds (R95). -/
abbrev timeoutReset : Nat := 1000

/-- The least and the greatest completion timeout setting in microseconds (R118). -/
abbrev timeoutMin : Nat := 16
abbrev timeoutMax : Nat := 16384

/-- Window and fence sizes are 2^n bytes, n from 12 to 40 (R1, R27). -/
abbrev sizeExpMin : Nat := 12
abbrev sizeExpMax : Nat := 40

/-- Greatest budget value in bytes (R11). -/
abbrev budgetMax : Nat := 2 ^ 40

/-- Greatest rank of a MANAGEMENT window and least rank of a SELF window (R30). -/
abbrev mgmtRankMax : Nat := 127
abbrev selfRankMin : Nat := 128

/-- Greatest self allowance (R27). -/
abbrev selfAllowanceMax : Nat := 16

/-- Greatest fault count; a count there stays there (R33). -/
abbrev faultCountMax : Nat := 255

/-- First address beyond the 48-bit input space (R54). -/
abbrev inputSpace : Nat := 2 ^ 48

/-- Greatest start position READ_CHAIN takes, and the most slots it returns (R51). -/
abbrev chainStartMax : Nat := 127
abbrev chainPage : Nat := 8

/-- The identification register: revision, vendor code, part code (R177, R194). -/
abbrev identification : Word := (1 : BitVec 4) ++ (0x5D3 : BitVec 12) ++ (0x2416 : BitVec 16)

end Sys2Proof.Config
end

