-- ==== Sys2Proof/Syntax.lean ====
section
/-! DEFINITION. The names of the part's numbered units, and `Instr`: one constructor for each row of
spec/opcode_table.json. The rows are the part's indivisible events (95_what_each_step_holds.md). -/

namespace Sys2Proof

/-- LP0 to LP3. -/
abbrev LinkId := Fin 4

/-- D0 to D15. -/
abbrev DomId := Fin 16

/-- Window slots 0 to 127 (R1). -/
abbrev SlotId := Fin 128

/-- T0 to T3. -/
abbrev TargetId := Fin 4

/-- Tracker entries 0 to 7 of one link (R86). -/
abbrev EntryNo := Fin 8

/-- Fabric tags 0 to 23 (R92). -/
abbrev TagNo := Fin 24

/-- Peer tags 0 to 15 (R54). -/
abbrev PeerTag := Fin 16

/-- Control tags 0 and 1 (R141). -/
abbrev CtlTag := Fin 2

/-- A stream number as a message carries it, 0 to 15; 0 is the control stream (R188). -/
abbrev StreamNo := Fin 16

/-- A data stream, 1 to 15 (R75): the value `k` is stream `k + 1`. -/
abbrev DataStream := Fin 15

/-- The status of a completion (R96). -/
inductive CompletionStatus where
  | ok | error
  deriving DecidableEq, Repr

/-- The width of a management bus access (R175). -/
inductive BusWidth where
  | byte | half | word
  deriving DecidableEq, Repr

/-- One of the 21 event registers, or the enable register beside it (R183, R194). -/
inductive EventReg where
  | device
  | link (l : LinkId)
  | domain (d : DomId)
  deriving DecidableEq, Repr

/-- The register that stands at an offset of the register window (R176, R194). -/
inductive Register where
  | identification
  | deviceControl
  | cmdIssue
  | cmdStatus
  | cmdArg (i : Fin 12)
  | cmdResult (i : Fin 12)
  | linkState (l : LinkId)
  | targetState0
  | targetState1
  | tagStatus
  | unboundSet (l : LinkId)
  | eventLatch (r : EventReg)
  | eventEnable (r : EventReg)
  | summary
  | summaryEnable
  | unassigned
  deriving DecidableEq, Repr

/-- The events of the part, one constructor for each row of spec/opcode_table.json.
The rows in which the Table Engine takes work carry no operand: what is taken stands in the management slot or at the
head of the in-band queue (R123, log 8). -/
inductive Instr where
  -- the Table Engine takes a management command (R131)
  | install
  | replace
  | retire
  | suspend
  | resume
  | setBudget
  | readWindow
  | domainOpen
  | domainSet
  | setFence
  | freeze
  | thaw
  | halt
  | release
  | purge
  | readDomain
  | readChain
  | bind
  | unbind
  | streamSet
  | targetSet
  | setTimeout
  | linkSet
  | probe
  | badCommand
  /-- a write of `value` to CMD_ISSUE (R129) -/
  | cmdIssue (value : Word)
  -- the Table Engine takes a control request (R127)
  | openWindow
  | closeWindow
  | narrow
  | status
  /-- a control request arrives; `byte2` and `op` are bytes 2 and 3 of its header (R142, R188) -/
  | ctl (l : LinkId) (tag : CtlTag) (byte2 : Byte) (op : Byte) (body : List Byte)
  /-- a write arrives; its length is the number of its data bytes (R164, R189, log 14) -/
  | wr (l : LinkId) (tag : PeerTag) (stream : StreamNo) (addr : InAddr) (data : List Byte)
  /-- a read arrives (R164) -/
  | rd (l : LinkId) (tag : PeerTag) (stream : StreamNo) (addr : InAddr) (length : BitVec 16)
  /-- a speculative read arrives (R164) -/
  | rds (l : LinkId) (tag : PeerTag) (stream : StreamNo) (addr : InAddr) (length : BitVec 16)
  | noticeAck (l : LinkId)
  | hello (l : LinkId)
  | linkReset (l : LinkId)
  | unknownKind (l : LinkId)
  -- the line and the timers
  | signalDetection (l : LinkId)
  | signalLoss (l : LinkId)
  | helloTimerExpiry (l : LinkId)
  | handshakeTimerExpiry (l : LinkId)
  -- the data path
  | examination (l : LinkId)
  | grant
  /-- a completion arrives; `tag` may be any number, 24 and above included (R96) -/
  | completion (tag : Nat) (st : CompletionStatus) (data : List Byte)
  | deadlineExpiry (l : LinkId) (e : EntryNo)
  -- what the Link Port sends
  | notice (l : LinkId)
  /-- the outgoing data reply with this peer tag is sent (R166, log 12) -/
  | sendDataReply (l : LinkId) (tag : PeerTag)
  /-- the outgoing control reply with this control tag is sent (R144, log 12) -/
  | sendCtlReply (l : LinkId) (tag : CtlTag)
  -- resets and register writes
  | powerOnReset
  | deviceReset
  | unboundSetRemove (l : LinkId) (value : Word)
  | eventClear (r : EventReg) (value : Word)
  | eventEnableWrite (r : EventReg) (value : Word)
  | summaryEnableWrite (value : Word)
  /-- a bus write at byte offset `off` (R175) -/
  | registerWrite (off : BitVec 12) (width : BusWidth) (value : Word)
  deriving DecidableEq, Repr

end Sys2Proof
end

