-- ==== Sys2Proof/Decode.lean ====
section
/-! DEFINITION. Reading the outside world's encodings: a link message's bytes as its row (R188, R189), an offset of the
register window as its register and a bus write as its row (R175, R176, R194), and `decodeTableWord`, which answers
none because no row of spec/opcode_table.json gives bits (log 18). -/

namespace Sys2Proof

/-- The number that bytes spell, least significant byte first (R187). -/
def leNat : List Byte → Nat
  | [] => 0
  | b :: rest => b.toNat + 256 * leNat rest

/-- `n` bytes of the number `v`, least significant byte first (R187). -/
def leBytes : Nat → Nat → List Byte
  | 0, _ => []
  | n + 1, v => BitVec.ofNat 8 v :: leBytes n (v / 256)

/-- The number whose bit `i` is the truth of the list's element `i`. -/
def maskOf : List Bool → Nat
  | [] => 0
  | b :: rest => b.toNat + 2 * maskOf rest

/-- Byte `i` of a message. -/
def byteAt (m : List Byte) (i : Nat) : Byte := m.getD i 0

/-- The number in bytes `i` to `i + n - 1` of a message (R187). -/
def fieldAtBytes (m : List Byte) (i n : Nat) : Nat := leNat ((m.drop i).take n)

/-- The row a message arriving on link `l` is: its kind code and byte count decide, and what has the count of no known
kind is UNKNOWN_KIND (R189). Bits of the tag and stream bytes outside their fields are ignored. -/
def arrival (l : LinkId) (m : List Byte) : Instr :=
  let tag := (byteAt m 1).toNat
  let stream : StreamNo := Fin.ofNat 16 (byteAt m 2).toNat
  let addr : InAddr := BitVec.ofNat 48 (fieldAtBytes m 4 6)
  let len := fieldAtBytes m 10 2
  if m.length < 4 then .unknownKind l
  else match (byteAt m 0).toNat with
    | 0x01 =>
      if m.length = 12 + len then .wr l (Fin.ofNat 16 tag) stream addr (m.drop 12) else .unknownKind l
    | 0x02 =>
      if m.length = 12 then .rd l (Fin.ofNat 16 tag) stream addr (BitVec.ofNat 16 len) else .unknownKind l
    | 0x03 =>
      if m.length = 12 then .rds l (Fin.ofNat 16 tag) stream addr (BitVec.ofNat 16 len) else .unknownKind l
    | 0x04 => .ctl l (Fin.ofNat 2 tag) (byteAt m 2) (byteAt m 3) (m.drop 4)
    | 0x05 => if m.length = 4 then .noticeAck l else .unknownKind l
    | 0x06 => if m.length = 8 then .hello l else .unknownKind l
    | 0x07 => if m.length = 4 then .linkReset l else .unknownKind l
    | _ => .unknownKind l

/-- The register at a byte offset of the register window (R194). An offset that is not word-aligned names none. -/
def registerAt (off : BitVec 12) : Register :=
  let o := off.toNat
  let nth (base : Nat) : Nat := (o - base) / 4
  if o % 4 ≠ 0 then .unassigned
  else if o = 0x000 then .identification
  else if o = 0x004 then .deviceControl
  else if o = 0x010 then .cmdIssue
  else if o = 0x014 then .cmdStatus
  else if 0x040 ≤ o ∧ o ≤ 0x06C then .cmdArg (Fin.ofNat 12 (nth 0x040))
  else if 0x080 ≤ o ∧ o ≤ 0x0AC then .cmdResult (Fin.ofNat 12 (nth 0x080))
  else if 0x100 ≤ o ∧ o ≤ 0x10C then .linkState (Fin.ofNat 4 (nth 0x100))
  else if o = 0x110 then .targetState0
  else if o = 0x114 then .targetState1
  else if o = 0x120 then .tagStatus
  else if 0x140 ≤ o ∧ o ≤ 0x14C then .unboundSet (Fin.ofNat 4 (nth 0x140))
  else if o = 0x200 then .eventLatch .device
  else if o = 0x204 then .eventEnable .device
  else if 0x210 ≤ o ∧ o ≤ 0x21C then .eventLatch (.link (Fin.ofNat 4 (nth 0x210)))
  else if 0x220 ≤ o ∧ o ≤ 0x22C then .eventEnable (.link (Fin.ofNat 4 (nth 0x220)))
  else if 0x240 ≤ o ∧ o ≤ 0x27C then .eventLatch (.domain (Fin.ofNat 16 (nth 0x240)))
  else if 0x280 ≤ o ∧ o ≤ 0x2BC then .eventEnable (.domain (Fin.ofNat 16 (nth 0x280)))
  else if o = 0x2C0 then .summary
  else if o = 0x2C4 then .summaryEnable
  else .unassigned

/-- The register a bus access reaches: none unless it is a whole word at a word-aligned offset (R175). -/
def accessedRegister (off : BitVec 12) (width : BusWidth) : Register :=
  match width with
  | .word => registerAt off
  | .byte => .unassigned
  | .half => .unassigned

/-- The row a bus write is (R176): the registers with a row of their own, and REGISTER_WRITE for the rest. A write to
DEVICE_CONTROL is a device reset only with its reset request field 1 (R178). -/
def busWrite (off : BitVec 12) (width : BusWidth) (value : Word) : Instr :=
  match accessedRegister off width with
  | .deviceControl => if value.getLsbD 0 then .deviceReset else .registerWrite off width value
  | .cmdIssue => .cmdIssue value
  | .unboundSet l => .unboundSetRemove l value
  | .eventLatch r => .eventClear r value
  | .eventEnable r => .eventEnableWrite r value
  | .summaryEnable => .summaryEnableWrite value
  | _ => .registerWrite off width value

/-- No row of spec/opcode_table.json gives bits, so no word spells a command (log 18). -/
def decodeTableWord (_nbits _w : Nat) : Option Instr := none

end Sys2Proof
end

