-- ==== Sys2Proof/Machine/State.lean ====
section
/-! DEFINITION. Every piece of state the spec gives the part, block by block (00_scope.md Block overview), as plain data,
with its value after power-on reset; and the reasons a step can stop. INVENTORY.md lists each field with its rule. -/

namespace Sys2Proof.Machine

/-! ## Permissions, windows (01_windows.md R1) -/

/-- A subset of READ, WRITE and SPECULATIVE (R1). -/
structure Perms where
  read : Bool
  write : Bool
  speculative : Bool
  deriving DecidableEq, Repr

/-- The empty permission set. -/
def Perms.empty : Perms := ⟨false, false, false⟩

inductive WindowState where
  | free | live | suspended | draining
  deriving DecidableEq, Repr

inductive Owner where
  | management | self
  deriving DecidableEq, Repr

/-- A present budget: the value last set and what remains of it (R11). -/
structure Budget where
  setValue : Nat
  remaining : Nat
  deriving DecidableEq, Repr

/-- A window record (R1); its size is `2 ^ sizeExp` bytes. -/
structure Window where
  state : WindowState
  generation : BitVec 8
  domain : DomId
  owner : Owner
  rank : Nat
  base : InAddr
  sizeExp : Nat
  target : TargetId
  targetBase : TgtAddr
  perms : Perms
  budget : Option Budget
  alert : Bool
  refs : Nat
  deriving DecidableEq, Repr

/-- The record of a FREE slot: the cleared values of R2 with the generation kept. -/
def Window.cleared (generation : BitVec 8) : Window where
  state := .free
  generation := generation
  domain := 0
  owner := .management
  rank := 0
  base := 0
  sizeExp := 12
  target := 0
  targetBase := 0
  perms := .empty
  budget := none
  alert := false
  refs := 0

/-- The name of one window: a slot that exists and a generation (R3). -/
structure Handle where
  slot : SlotId
  generation : BitVec 8
  deriving DecidableEq, Repr

/-! ## Domains (02_domains_and_their_chains.md R27) -/

inductive DomainState where
  | unused | active | frozen | halted | purging
  deriving DecidableEq, Repr

inductive MissPolicy where
  | refuse | refuseQuiet | absorb
  deriving DecidableEq, Repr

/-- The kinds of fault a domain counts (R33). -/
inductive FaultKind where
  | boundary | access | noWindow
  deriving DecidableEq, Repr

/-- The fault that halted a domain (R27, R34). -/
structure HaltCause where
  kind : FaultKind
  link : LinkId
  stream : DataStream
  addr : InAddr
  deriving DecidableEq, Repr

/-- The area inside which peers may open self windows (R27, R36). -/
structure Fence where
  base : InAddr
  sizeExp : Nat
  target : TargetId
  targetBase : TgtAddr
  deriving DecidableEq, Repr

/-- A domain record (R27); `chain` lists slots by ascending rank (R30). -/
structure Domain where
  state : DomainState
  missPolicy : MissPolicy
  faultLimit : Nat
  faultCount : Nat
  haltCause : Option HaltCause
  chain : List SlotId
  selfAllowance : Nat
  selfCount : Nat
  fence : Option Fence
  selfCeiling : Perms
  drainingCount : Nat
  deriving DecidableEq, Repr

/-- The values a domain holds whenever it is UNUSED (R28). -/
def Domain.unused : Domain where
  state := .unused
  missPolicy := .refuse
  faultLimit := 0
  faultCount := 0
  haltCause := none
  chain := []
  selfAllowance := 0
  selfCount := 0
  fence := none
  selfCeiling := .empty
  drainingCount := 0

/-! ## Bindings (04_streams_and_bindings.md R75) -/

inductive UnboundPolicy where
  | refuse | absorb
  deriving DecidableEq, Repr

/-- The entry of one data stream of one link (R75). -/
structure StreamEntry where
  enabled : Bool
  unboundPolicy : UnboundPolicy
  bound : Option DomId
  deriving DecidableEq, Repr

/-- A stream entry after reset (R85). -/
def StreamEntry.initial : StreamEntry := ⟨false, .refuse, none⟩

/-- A set of data streams of one link: whether each of streams 1 to 15 is a member (R77, R152). -/
abbrev StreamSet := Vector Bool 15

def StreamSet.none : StreamSet := Vector.replicate 15 false

/-! ## Requests and replies (03 R54, 09 R166, R167) -/

inductive ReqKind where
  | wr | rd | rds
  deriving DecidableEq, Repr

/-- A data request as its Link Port holds it (R54); `data` is present for a WR. -/
structure Request where
  link : LinkId
  tag : PeerTag
  kind : ReqKind
  stream : DataStream
  addr : InAddr
  length : Nat
  data : Option (List Byte)
  deriving DecidableEq, Repr

/-- The reply codes of a REFUSED (R167). -/
inductive ReplyCode where
  | noStream | noRoute | noWindow | boundary | access | suspended | budget | domainHalted | targetOffline
  | targetError | timeout | specDeclined
  deriving DecidableEq, Repr

/-- What a data reply says (R166). -/
inductive DataAnswer where
  | done
  | data (bytes : List Byte)
  | refused (code : ReplyCode)
  deriving DecidableEq, Repr

/-- A reply to a data request, handed to its Link Port (R166, R188). -/
structure DataReply where
  tag : PeerTag
  stream : DataStream
  answer : DataAnswer
  deriving DecidableEq, Repr

/-- The result codes of commands and control requests (R136), and BUSY of the Link Port (R143). -/
inductive ResultCode where
  | ok | pending | badCommand | badArgument | badStream | badHandle | staleHandle | windowState | domainState
  | badGeometry | rankTaken | tableFull | notOwner | outsideFence | allowance | ceiling | inUse | frozen | busy
  deriving DecidableEq, Repr

/-- A control reply, handed to its Link Port (R144, R188, R190). -/
structure CtlReply where
  tag : CtlTag
  byte2 : Byte
  code : ResultCode
  body : List Byte
  deriving DecidableEq, Repr

inductive CtlOp where
  | openWindow | closeWindow | narrow | status
  deriving DecidableEq, Repr

/-- A control request in the in-band queue (R122); `byte2` holds the stream it names in its low four bits (R188). -/
structure CtlRequest where
  link : LinkId
  tag : CtlTag
  byte2 : Byte
  op : CtlOp
  body : List Byte
  deriving DecidableEq, Repr

/-! ## Link Ports (09_peripheral_links.md R158, 08 R141, R152) -/

inductive LinkState where
  | disabled | down | training | up | resetting
  deriving DecidableEq, Repr

/-- The causes of a protocol error (R168). -/
inductive ErrorCause where
  | streamZero | badLength | badRange | noDataCredit | duplicateTag | duplicateControlTag | noControlCredit | strayAck
  | unknownKind
  deriving DecidableEq, Repr

inductive NoticeCredit where
  | absent | held | outstanding
  deriving DecidableEq, Repr

/-- The state of one Link Port (R158). -/
structure LinkPort where
  state : LinkState
  signal : Bool
  helloTimer : Option Nat
  handshakeTimer : Option Nat
  ingress : List Request
  dataCredits : Nat
  unrepliedTags : Vector Bool 16
  outData : List DataReply
  outCtl : List CtlReply
  errorCause : Option ErrorCause
  ctlCredits : Nat
  unrepliedCtl : Vector Bool 2
  noticeSet : StreamSet
  noticeCredit : NoticeCredit
  unboundSet : StreamSet
  deriving DecidableEq, Repr

/-- A port after reset with the given signal on its line, before any training (R174, R157, R85). -/
def LinkPort.initial (signal : Bool) : LinkPort where
  state := .down
  signal := signal
  helloTimer := none
  handshakeTimer := none
  ingress := []
  dataCredits := 0
  unrepliedTags := Vector.replicate 16 false
  outData := []
  outCtl := []
  errorCause := none
  ctlCredits := 0
  unrepliedCtl := Vector.replicate 2 false
  noticeSet := StreamSet.none
  noticeCredit := .absent
  unboundSet := StreamSet.none

/-! ## Transaction Tracker (05_transactions_in_flight.md R86) -/

/-- The request an entry carries (R86). -/
structure EntryReq where
  tag : PeerTag
  kind : ReqKind
  stream : DataStream
  length : Nat
  window : Handle
  target : TargetId
  addr : TgtAddr
  data : Option (List Byte)
  deriving DecidableEq, Repr

/-- A tracker entry: a FREE one holds nothing, only an ISSUED one has a fabric tag and a deadline (R86). -/
inductive Entry where
  | free
  | waitTag (r : EntryReq)
  | issued (r : EntryReq) (tag : TagNo) (deadline : Nat)
  deriving DecidableEq, Repr

/-! ## Fabric Request Unit (05 R92, 06 R109, R111) -/

/-- The condition of a fabric tag (R92): free, held by one entry of one link, or quarantined against a target. -/
inductive TagCond where
  | free
  | held (l : LinkId) (e : EntryNo)
  | quarantined (t : TargetId)
  deriving DecidableEq, Repr

inductive TargetState where
  | offline | online
  deriving DecidableEq, Repr

structure Fabric where
  tags : Vector TagCond 24
  lastGranted : LinkId
  targets : Vector TargetState 4
  timeout : Nat
  deriving DecidableEq, Repr

/-- The Fabric Request Unit after power-on reset (R108, R121). -/
def Fabric.initial : Fabric where
  tags := Vector.replicate 24 .free
  lastGranted := 3
  targets := Vector.replicate 4 .offline
  timeout := Config.timeoutReset

/-- A fabric request as it leaves the part (R111); `data` is absent for a read. -/
structure FabricRequest where
  target : TargetId
  tag : TagNo
  write : Bool
  addr : TgtAddr
  length : Nat
  data : Option (List Byte)
  deriving DecidableEq, Repr

/-! ## Table Engine and Management Port (07 R122, R128 to R132) -/

/-- The twelve argument words of a command (R122). -/
abbrev Args := Vector Word 12

/-- The command in the management slot (R122). -/
structure Command where
  code : BitVec 8
  seq : BitVec 8
  args : Args
  deriving DecidableEq, Repr

inductive Source where
  | management | inband
  deriving DecidableEq, Repr

structure Engine where
  slot : Option Command
  inband : List CtlRequest
  lastServed : Source
  deriving DecidableEq, Repr

/-- The engine after reset (R137). -/
def Engine.initial : Engine := ⟨none, [], .inband⟩

inductive CmdState where
  | idle | busy | done
  deriving DecidableEq, Repr

structure MgmtPort where
  staging : Args
  status : CmdState
  seq : BitVec 8
  results : Vector Word 12
  deriving DecidableEq, Repr

/-- The management port after reset (R137). -/
def MgmtPort.initial : MgmtPort := ⟨Vector.replicate 12 0, .idle, 0, Vector.replicate 12 0⟩

/-! ## Event Unit (10_management_port_and_events.md R180 to R186) -/

/-- The latches and enables, each at its bit position in its register (R194). The summary bits and the interrupt line are
functions of them (R184, R185). -/
structure EventUnit where
  devLatch : BitVec 6
  devEnable : BitVec 6
  linkLatch : Vector (BitVec 4) 4
  linkEnable : Vector (BitVec 4) 4
  domLatch : Vector (BitVec 5) 16
  domEnable : Vector (BitVec 5) 16
  sumEnable : BitVec 20
  deriving DecidableEq, Repr

/-- The Event Unit after reset (R186). -/
def EventUnit.initial : EventUnit where
  devLatch := 0
  devEnable := 0
  linkLatch := Vector.replicate 4 0
  linkEnable := Vector.replicate 4 0
  domLatch := Vector.replicate 16 0
  domEnable := Vector.replicate 16 0
  sumEnable := 0

/-! ## The whole part -/

/-- The state of the part, and the model's own clock, output records and event queue (log 1, log 4, log 6). -/
structure State where
  windows : Vector Window 128
  domains : Vector Domain 16
  bindings : Vector (Vector StreamEntry 15) 4
  ports : Vector LinkPort 4
  entries : Vector (Vector Entry 8) 4
  waiting : Vector (List EntryNo) 4
  fabric : Fabric
  engine : Engine
  mgmt : MgmtPort
  events : EventUnit
  sent : List (LinkId × List Byte)
  fabricSent : List FabricRequest
  now : Nat
  pending : List Instr
  deriving DecidableEq, Repr

/-- The part right after power-on reset, with no signal on any link (R26, R52, R85, R108, R121, R137, R157, R174, R186;
the absent signal is log 5, DESIGN CHOICE). -/
def State.reset : State where
  windows := Vector.replicate 128 (Window.cleared 0)
  domains := Vector.replicate 16 Domain.unused
  bindings := Vector.replicate 4 (Vector.replicate 15 StreamEntry.initial)
  ports := Vector.replicate 4 (LinkPort.initial false)
  entries := Vector.replicate 4 (Vector.replicate 8 .free)
  waiting := Vector.replicate 4 []
  fabric := Fabric.initial
  engine := Engine.initial
  mgmt := MgmtPort.initial
  events := EventUnit.initial
  sent := []
  fabricSent := []
  now := 0
  pending := []

/-- Nothing in the spec stops the part with a fault, so no fault exists: nobody raises one (safe). -/
inductive Fault where
  deriving DecidableEq, Repr

/-- Why a step can give no meaning. -/
inductive Refusal where
  /-- Raised only by `exec`'s arm of a row that has no meaning yet; safe. No arm raises it now. -/
  | notModelled (mnemonic : String)
  deriving DecidableEq, Repr

end Sys2Proof.Machine
end

