-- ==== Sys2Proof/Machine/Flags.lean ====
section
/-! DEFINITION. The Event Unit: which bit each event is, setting and clearing latches, the enables, the summary bits and
the interrupt line (10_management_port_and_events.md R180 to R186, positions R194). -/

namespace Sys2Proof.Machine

/-- The device events (R180 table). -/
inductive DevEvent where
  | cmdDone | cmdOverrun | inbandFull | quarantine | lateCompletion | strayCompletion
  deriving DecidableEq, Repr

/-- The events of one link. -/
inductive LinkEvent where
  | linkUp | linkReset | unbound | protocol
  deriving DecidableEq, Repr

/-- The events of one domain. -/
inductive DomEvent where
  | windowFreed | domainPurged | domainHalted | budgetSpent | selfChanged
  deriving DecidableEq, Repr

/-- Bit positions of the device events (R194). -/
def DevEvent.bit : DevEvent → Nat
  | .cmdDone => 0
  | .cmdOverrun => 1
  | .inbandFull => 2
  | .quarantine => 3
  | .lateCompletion => 4
  | .strayCompletion => 5

/-- Bit positions of the link events (R194). -/
def LinkEvent.bit : LinkEvent → Nat
  | .linkUp => 0
  | .linkReset => 1
  | .unbound => 2
  | .protocol => 3

/-- Bit positions of the domain events (R194). -/
def DomEvent.bit : DomEvent → Nat
  | .windowFreed => 0
  | .domainPurged => 1
  | .domainHalted => 2
  | .budgetSpent => 3
  | .selfChanged => 4

/-- Whether a device event is latched. -/
def EventUnit.dev (u : EventUnit) (e : DevEvent) : Bool := u.devLatch.getLsbD e.bit

/-- Whether an event of link `l` is latched. -/
def EventUnit.link (u : EventUnit) (l : LinkId) (e : LinkEvent) : Bool := (u.linkLatch[l]).getLsbD e.bit

/-- Whether an event of domain `d` is latched. -/
def EventUnit.dom (u : EventUnit) (d : DomId) (e : DomEvent) : Bool := (u.domLatch[d]).getLsbD e.bit

/-- A cause sets its device latch; a latch already set stays set (R181). -/
def EventUnit.raiseDev (e : DevEvent) (u : EventUnit) : EventUnit :=
  { u with devLatch := u.devLatch ||| BitVec.twoPow 6 e.bit }

/-- A cause sets a latch of link `l` (R181). -/
def EventUnit.raiseLink (l : LinkId) (e : LinkEvent) (u : EventUnit) : EventUnit :=
  { u with linkLatch := u.linkLatch.set l (u.linkLatch[l] ||| BitVec.twoPow 4 e.bit) }

/-- A cause sets a latch of domain `d` (R181). -/
def EventUnit.raiseDom (d : DomId) (e : DomEvent) (u : EventUnit) : EventUnit :=
  { u with domLatch := u.domLatch.set d (u.domLatch[d] ||| BitVec.twoPow 5 e.bit) }

/-- A word written to an event register clears each latch written 1 (R181); positions of no event are ignored (R176). -/
def EventUnit.clear (r : EventReg) (value : Word) (u : EventUnit) : EventUnit :=
  match r with
  | .device => { u with devLatch := u.devLatch &&& ~~~(value.setWidth 6) }
  | .link l => { u with linkLatch := u.linkLatch.set l (u.linkLatch[l] &&& ~~~(value.setWidth 4)) }
  | .domain d => { u with domLatch := u.domLatch.set d (u.domLatch[d] &&& ~~~(value.setWidth 5)) }

/-- A word written to an enable register replaces all its enables (R183). -/
def EventUnit.writeEnable (r : EventReg) (value : Word) (u : EventUnit) : EventUnit :=
  match r with
  | .device => { u with devEnable := value.setWidth 6 }
  | .link l => { u with linkEnable := u.linkEnable.set l (value.setWidth 4) }
  | .domain d => { u with domEnable := u.domEnable.set d (value.setWidth 5) }

/-- A link has at least one event both set and enabled (R184). -/
def EventUnit.linkPending (u : EventUnit) (l : LinkId) : Bool := decide (u.linkLatch[l] &&& u.linkEnable[l] ≠ 0)

/-- A domain has at least one event both set and enabled (R184). -/
def EventUnit.domPending (u : EventUnit) (d : DomId) : Bool := decide (u.domLatch[d] &&& u.domEnable[d] ≠ 0)

/-- The twenty summary bits: LP0 to LP3 in bits 3:0, D0 to D15 in bits 19:4 (R184, R194). -/
def EventUnit.summary (u : EventUnit) : BitVec 20 :=
  BitVec.ofNat 20 (maskOf ((List.finRange 4).map u.linkPending ++ (List.finRange 16).map u.domPending))

/-- The interrupt line (R185). -/
def EventUnit.interrupt (u : EventUnit) : Bool :=
  decide (u.devLatch &&& u.devEnable ≠ 0) || decide (u.summary &&& u.sumEnable ≠ 0)

end Sys2Proof.Machine
end

