-- ==== Sys2Proof/Machine/Operands.lean ====
section
/-! DEFINITION. The operand forms of the part: the fields of command words and control bodies as they are read, and the
words and messages as they are written (11_formats.md R187 to R193). -/

namespace Sys2Proof.Machine

/-! ## Numbers of names (R187) -/

def Perms.toNat (p : Perms) : Nat := p.read.toNat + 2 * p.write.toNat + 4 * p.speculative.toNat

/-- A permission field: bit 0 READ, bit 1 WRITE, bit 2 SPECULATIVE; higher bits are ignored (R187, R191). -/
def Perms.ofNat (n : Nat) : Perms := ⟨n.testBit 0, n.testBit 1, n.testBit 2⟩

/-- SPECULATIVE is only allowed with READ (R1). -/
def Perms.legal (p : Perms) : Bool := !p.speculative || p.read

def Perms.subset (p q : Perms) : Bool :=
  (!p.read || q.read) && (!p.write || q.write) && (!p.speculative || q.speculative)

/-- NARROW's result: the intersection, with SPECULATIVE removed when READ is not kept (R149). -/
def Perms.narrowTo (p q : Perms) : Perms :=
  { read := p.read && q.read, write := p.write && q.write,
    speculative := (p.speculative && q.speculative) && (p.read && q.read) }

def WindowState.num : WindowState → Nat
  | .free => 0 | .live => 1 | .suspended => 2 | .draining => 3

def DomainState.num : DomainState → Nat
  | .unused => 0 | .active => 1 | .frozen => 2 | .halted => 3 | .purging => 4

def LinkState.num : LinkState → Nat
  | .disabled => 0 | .down => 1 | .training => 2 | .up => 3 | .resetting => 4

def NoticeCredit.num : NoticeCredit → Nat
  | .absent => 0 | .held => 1 | .outstanding => 2

def Owner.num : Owner → Nat
  | .management => 0 | .self => 1

def TargetState.num : TargetState → Nat
  | .offline => 0 | .online => 1

def MissPolicy.num : MissPolicy → Nat
  | .refuse => 0 | .refuseQuiet => 1 | .absorb => 2

def MissPolicy.ofNat? : Nat → Option MissPolicy
  | 0 => some .refuse
  | 1 => some .refuseQuiet
  | 2 => some .absorb
  | _ => none

/-- Halt kinds in READ_DOMAIN (R192). -/
def FaultKind.num : FaultKind → Nat
  | .boundary => 1 | .access => 2 | .noWindow => 3

def CmdState.num : CmdState → Nat
  | .idle => 0 | .busy => 1 | .done => 2

def ReplyCode.num : ReplyCode → Nat
  | .noStream => 0x01 | .noRoute => 0x02 | .noWindow => 0x03 | .boundary => 0x04 | .access => 0x05
  | .suspended => 0x06 | .budget => 0x07 | .domainHalted => 0x08 | .targetOffline => 0x09 | .targetError => 0x0A
  | .timeout => 0x0B | .specDeclined => 0x0C

def ResultCode.num : ResultCode → Nat
  | .ok => 0x00 | .pending => 0x01 | .badCommand => 0x02 | .badArgument => 0x03 | .badStream => 0x04
  | .badHandle => 0x05 | .staleHandle => 0x06 | .windowState => 0x07 | .domainState => 0x08 | .badGeometry => 0x09
  | .rankTaken => 0x0A | .tableFull => 0x0B | .notOwner => 0x0C | .outsideFence => 0x0D | .allowance => 0x0E
  | .ceiling => 0x0F | .inUse => 0x10 | .frozen => 0x11 | .busy => 0x12

/-- The protocol-error cause field: 0 when absent (R187). -/
def ErrorCause.num : Option ErrorCause → Nat
  | none => 0
  | some .streamZero => 1
  | some .badLength => 2
  | some .badRange => 3
  | some .noDataCredit => 4
  | some .duplicateTag => 5
  | some .duplicateControlTag => 6
  | some .noControlCredit => 7
  | some .strayAck => 8
  | some .unknownKind => 9

/-- The number of a data stream, 1 to 15. -/
def streamNum (st : DataStream) : Nat := st.val + 1

/-- The data stream a number names; 0 and numbers above 15 name none (R75). -/
def streamOf? (n : Nat) : Option DataStream :=
  if h : 0 < n ∧ n < 16 then some ⟨n - 1, by omega⟩ else none

/-- The control operation a CTL header's byte 3 names (R190). -/
def CtlOp.ofByte? (b : Byte) : Option CtlOp :=
  match b.toNat with
  | 1 => some .openWindow
  | 2 => some .closeWindow
  | 3 => some .narrow
  | 4 => some .status
  | _ => none

/-- The length of each operation's request body (R190). -/
def CtlOp.bodyLength : CtlOp → Nat
  | .openWindow => 12
  | .closeWindow => 4
  | .narrow => 8
  | .status => 0

/-! ## Reading command words (R192, R193) -/

/-- The field of `len` bits from bit `lo` of argument word `i`. -/
def argField (a : Args) (i : Fin 12) (lo len : Nat) : Nat := ((a[i]).extractLsb' lo len).toNat

/-- The number in two consecutive words, the low word first (R187). -/
def argPair (a : Args) (lo hi : Fin 12) : Nat := (a[lo]).toNat + 2 ^ 32 * (a[hi]).toNat

/-- A handle as presented: any slot number and a generation (R3). -/
structure RawHandle where
  slot : Nat
  generation : BitVec 8
  deriving DecidableEq, Repr

/-- A handle in a word: slot in bits 15:0, generation in bits 23:16 (R187). -/
def argHandle (a : Args) (i : Fin 12) : RawHandle := ⟨argField a i 0 16, (a[i]).extractLsb' 16 8⟩

/-- A handle in a message: slot in bytes 0 and 1, generation in byte 2, byte 3 ignored (R187, R191). -/
def bodyHandle (b : List Byte) : RawHandle := ⟨fieldAtBytes b 0 2, byteAt b 2⟩

/-- Size, base and target base as presented, before the geometry check. -/
structure Geometry where
  sizeExp : Nat
  base : Nat
  targetBase : Nat
  deriving DecidableEq, Repr

/-- A size and base in range and aligned (R14, R41, R146). -/
def Geometry.areaOk (g : Geometry) : Bool :=
  decide (Config.sizeExpMin ≤ g.sizeExp) && decide (g.sizeExp ≤ Config.sizeExpMax)
    && decide (g.base < Config.inputSpace) && decide (g.base % 2 ^ g.sizeExp = 0)

/-- The whole geometry is in range and aligned (R14, R16, R41). -/
def Geometry.ok (g : Geometry) : Bool := g.areaOk && decide (g.targetBase % 2 ^ g.sizeExp = 0)

/-- The geometry of a window spec or a fence: exponent in ARG1 7:0, base in ARG2-3, target base in ARG4-5 (R192). -/
def argGeometry (a : Args) : Geometry := ⟨argField a 1 0 8, argPair a 2 3, argPair a 4 5⟩

/-- The target field of a window spec or a fence, ARG1 23:16 (R192). -/
def argTarget (a : Args) : Nat := argField a 1 16 8

/-- The permission field of a window spec, ARG1 26:24 (R192). -/
def argPerms (a : Args) : Perms := Perms.ofNat (argField a 1 24 3)

/-- A budget pair: the value's bits 31:0 in the first word, bits 40:32 in bits 8:0 of the second, the presence flag in
its bit 31 (R192). -/
def argBudget (a : Args) (lo hi : Fin 12) : Option Nat :=
  if (a[hi]).getLsbD 31 then some ((a[lo]).toNat + 2 ^ 32 * argField a hi 0 9) else none

/-- A present budget value lies in 1 to 2^40 (R14). -/
def budgetOk : Option Nat → Bool
  | none => true
  | some v => decide (0 < v) && decide (v ≤ Config.budgetMax)

/-- A budget newly set: set value and remaining both the given value (R11). -/
def newBudget (v : Option Nat) : Option Budget := v.map fun n => ⟨n, n⟩

/-! ## Writing result words (R192) -/

/-- The value `v` placed in the field of `len` bits from bit `lo`, 0 elsewhere. -/
def fieldWord (lo len v : Nat) : Word := (BitVec.ofNat len v).setWidth 32 <<< lo

/-- The two words of a 64-bit number, the low word first (R187). -/
def pairWords (v : Nat) : List Word := [BitVec.ofNat 32 v, BitVec.ofNat 32 (v / 2 ^ 32)]

/-- A handle in a word (R187). -/
def Handle.word (h : Handle) : Word := fieldWord 0 16 h.slot.val ||| fieldWord 16 8 h.generation.toNat

/-- A handle in a message; the last byte is zero (R187). -/
def Handle.bytes (h : Handle) : List Byte := leBytes 2 h.slot.val ++ [h.generation, 0]

/-- The result registers: CMD_RESULT0 the result code, the items from CMD_RESULT1 on, every other word 0 (R131, R192). -/
def resultWords (code : ResultCode) (items : List Word) : Vector Word 12 :=
  Vector.ofFn fun i => (fieldWord 0 8 code.num :: items).getD i.val 0

/-! ## Writing messages (R188, R190) -/

/-- A set of streams as the register and the NOTICE show it: bit `s` for stream `s`, bit 0 zero (R188, R194). -/
def StreamSet.mask (m : StreamSet) : Nat := maskOf (false :: m.toList)

/-- The messages the part sends (R188). -/
inductive LinkMessage where
  | hello
  | linkReset
  | dataReply (r : DataReply)
  | ctlReply (r : CtlReply)
  | notice (streams : StreamSet)
  deriving DecidableEq, Repr

/-- The four header bytes: kind code, tag, stream, code (R188). -/
def header (kind tag stream code : Nat) : List Byte :=
  [BitVec.ofNat 8 kind, BitVec.ofNat 8 tag, BitVec.ofNat 8 stream, BitVec.ofNat 8 code]

/-- The bytes of a message the part sends (R188, R190). -/
def LinkMessage.bytes : LinkMessage → List Byte
  | .hello => header 0x06 0 0 0 ++ leBytes 1 Config.dataCredits ++ leBytes 1 Config.ctlCredits ++ [0, 0]
  | .linkReset => header 0x07 0 0 0
  | .dataReply ⟨tag, st, .done⟩ => header 0x11 tag.val (streamNum st) 0
  | .dataReply ⟨tag, st, .data bytes⟩ => header 0x12 tag.val (streamNum st) 0 ++ leBytes 2 bytes.length ++ bytes
  | .dataReply ⟨tag, st, .refused c⟩ => header 0x13 tag.val (streamNum st) c.num
  | .ctlReply r => header 0x14 r.tag.val r.byte2.toNat r.code.num ++ r.body
  | .notice m => header 0x15 0 0 0 ++ leBytes 2 m.mask

/-- One entry of a STATUS reply: the handle with the window's state in its byte 3, base, size exponent, permissions and
two zero bytes (R190). -/
def statusEntry (h : Handle) (w : Window) : List Byte :=
  leBytes 2 h.slot.val ++ [h.generation, BitVec.ofNat 8 w.state.num] ++ leBytes 8 w.base.toNat
    ++ [BitVec.ofNat 8 w.sizeExp, BitVec.ofNat 8 w.perms.toNat, 0, 0]

end Sys2Proof.Machine
end

