-- ==== Sys2Proof/Machine/Ops.lean ====
section
/-! DEFINITION. The named operations on State that the meanings share: reading and writing one record, setting events,
sending, window allocation and removal, references, notices, the ending of tracker entries, the reset effects of a link,
and the frame of every taking at the Table Engine. -/

namespace Sys2Proof.Machine

/-- What a meaning answers. -/
abbrev Answer := Host.Outcome State Fault Refusal

namespace State

/-! ## One record at a time -/

def window (s : State) (i : SlotId) : Window := s.windows[i]
def domain (s : State) (d : DomId) : Domain := s.domains[d]
def stream (s : State) (l : LinkId) (st : DataStream) : StreamEntry := (s.bindings[l])[st]
def port (s : State) (l : LinkId) : LinkPort := s.ports[l]
def entry (s : State) (l : LinkId) (e : EntryNo) : Entry := (s.entries[l])[e]
def waitList (s : State) (l : LinkId) : List EntryNo := s.waiting[l]
def tag (s : State) (t : TagNo) : TagCond := s.fabric.tags[t]
def target (s : State) (t : TargetId) : TargetState := s.fabric.targets[t]

def setWindow (i : SlotId) (w : Window) (s : State) : State := { s with windows := s.windows.set i w }
def setDomain (d : DomId) (x : Domain) (s : State) : State := { s with domains := s.domains.set d x }
def setStream (l : LinkId) (st : DataStream) (x : StreamEntry) (s : State) : State :=
  { s with bindings := s.bindings.set l ((s.bindings[l]).set st x) }
def setPort (l : LinkId) (p : LinkPort) (s : State) : State := { s with ports := s.ports.set l p }
def setEntry (l : LinkId) (e : EntryNo) (x : Entry) (s : State) : State :=
  { s with entries := s.entries.set l ((s.entries[l]).set e x) }
def setWaiting (l : LinkId) (es : List EntryNo) (s : State) : State := { s with waiting := s.waiting.set l es }
def setFabric (f : Fabric) (s : State) : State := { s with fabric := f }
def setTag (t : TagNo) (c : TagCond) (s : State) : State :=
  { s with fabric := { s.fabric with tags := s.fabric.tags.set t c } }
def setTarget (t : TargetId) (x : TargetState) (s : State) : State :=
  { s with fabric := { s.fabric with targets := s.fabric.targets.set t x } }
def setEngine (e : Engine) (s : State) : State := { s with engine := e }
def setMgmt (m : MgmtPort) (s : State) : State := { s with mgmt := m }
def setEvents (u : EventUnit) (s : State) : State := { s with events := u }
def setNow (n : Nat) (s : State) : State := { s with now := n }

def modDomain (d : DomId) (f : Domain → Domain) (s : State) : State := s.setDomain d (f (s.domain d))
def modPort (l : LinkId) (f : LinkPort → LinkPort) (s : State) : State := s.setPort l (f (s.port l))

/-! ## Events and messages -/

def raiseDev (e : DevEvent) (s : State) : State := s.setEvents (s.events.raiseDev e)
def raiseLink (l : LinkId) (e : LinkEvent) (s : State) : State := s.setEvents (s.events.raiseLink l e)
def raiseDom (d : DomId) (e : DomEvent) (s : State) : State := s.setEvents (s.events.raiseDom d e)

/-- A message leaves for the peer of link `l` (R188, log 6). -/
def send (l : LinkId) (m : LinkMessage) (s : State) : State := { s with sent := s.sent ++ [(l, m.bytes)] }

/-- A fabric request leaves for its target (R111, log 6). -/
def sendFabric (r : FabricRequest) (s : State) : State := { s with fabricSent := s.fabricSent ++ [r] }

/-- A data reply is handed to the Link Port, which holds it until it is sent (R166). -/
def handData (l : LinkId) (r : DataReply) (s : State) : State :=
  s.modPort l fun p => { p with outData := p.outData ++ [r] }

/-- A control reply is handed to the Link Port (R127, R143). -/
def handCtl (l : LinkId) (r : CtlReply) (s : State) : State :=
  s.modPort l fun p => { p with outCtl := p.outCtl ++ [r] }

end State

/-! ## Windows (01_windows.md) -/

/-- What a presented handle names (R3). -/
inductive HandleClass where
  | noSlot
  | stale
  | current (i : SlotId)
  deriving DecidableEq, Repr

/-- The classification of R3. -/
def State.classify (s : State) (h : RawHandle) : HandleClass :=
  if hs : h.slot < 128 then
    if (s.window ⟨h.slot, hs⟩).generation = h.generation ∧ (s.window ⟨h.slot, hs⟩).state ≠ .free then
      .current ⟨h.slot, hs⟩
    else .stale
  else .noSlot

/-- The lowest-numbered FREE slot, if any (R5). -/
def State.lowestFree (s : State) : Option SlotId :=
  (List.finRange 128).find? fun i => decide ((s.window i).state = .free)

/-- The handle that names the window now in a slot (R3). -/
def State.handleOf (s : State) (i : SlotId) : Handle := ⟨i, (s.window i).generation⟩

/-- The input bytes a base and a size cover contain byte `a` (R59). -/
def covers (base : InAddr) (sizeExp : Nat) (a : Nat) : Bool :=
  decide (base.toNat ≤ a) && decide (a < base.toNat + 2 ^ sizeExp)

/-- An area lies wholly within a fence (R36, R146). -/
def Fence.contains (f : Fence) (base sizeExp : Nat) : Bool :=
  decide (f.base.toNat ≤ base) && decide (base + 2 ^ sizeExp ≤ f.base.toNat + 2 ^ f.sizeExp)

/-- The target address to which an input address translates (R67). -/
def Window.translate (w : Window) (a : InAddr) : TgtAddr := w.targetBase + (a - w.base).setWidth 64

/-- A window on the chain of domain `d` holds rank `r` (R14). -/
def State.rankHeld (s : State) (d : DomId) (r : Nat) : Bool :=
  (s.domain d).chain.any fun i => decide ((s.window i).rank = r)

/-- A slot of rank `r` placed on a chain at the position its rank decides (R31). -/
def insertByRank (ws : Vector Window 128) (i : SlotId) (r : Nat) : List SlotId → List SlotId
  | [] => [i]
  | j :: rest => if r < (ws[j]).rank then i :: j :: rest else j :: insertByRank ws i r rest

/-- An install fills slot `i` with record `w`, its generation advanced by one with wrap (R4). -/
def State.fillSlot (i : SlotId) (w : Window) (s : State) : State :=
  s.setWindow i { w with generation := (s.window i).generation + 1 }

/-- Slot `i` joins the chain of domain `d` at the position of rank `r` (R31). -/
def State.chainInsert (d : DomId) (i : SlotId) (r : Nat) (s : State) : State :=
  s.modDomain d fun x => { x with chain := insertByRank s.windows i r x.chain }

/-- Slot `i` becomes FREE and is cleared, its generation kept (R2). -/
def State.clearSlot (i : SlotId) (s : State) : State :=
  s.setWindow i (Window.cleared (s.window i).generation)

/-- The window in slot `i` leaves the chain of domain `d`: the self count falls for a SELF window; without references the
slot becomes FREE, with references it becomes DRAINING and the draining count rises (R7). -/
def State.removeWindow (d : DomId) (i : SlotId) (s : State) : State :=
  let w := s.window i
  let s1 := s.modDomain d fun x =>
    { x with
      chain := x.chain.filter (fun j => decide (j ≠ i))
      selfCount := if w.owner = .self then x.selfCount - 1 else x.selfCount
      drainingCount := if w.refs = 0 then x.drainingCount else x.drainingCount + 1 }
  if w.refs = 0 then s1.clearSlot i else s1.setWindow i { w with state := .draining }

/-- The result of a removal: OK when the window became FREE, PENDING when it drains (R7, R19). -/
def removalResult (w : Window) : ResultCode := if w.refs = 0 then .ok else .pending

/-- A DRAINING window of domain `d` has freed: the draining count falls, WINDOW_FREED is set, and a PURGING domain whose
count reaches 0 enters UNUSED with DOMAIN_PURGED (R9, R49). -/
def State.noteFreed (d : DomId) (s : State) : State :=
  let x := s.domain d
  let s1 := s.raiseDom d .windowFreed
  if x.state = .purging ∧ x.drainingCount - 1 = 0 then
    (s1.setDomain d Domain.unused).raiseDom d .domainPurged
  else s1.setDomain d { x with drainingCount := x.drainingCount - 1 }

/-- A tracker entry drops its reference, against the slot and generation it recorded; the last reference of a DRAINING
window frees the slot (R9, R98). -/
def State.dropRef (h : Handle) (s : State) : State :=
  let w := s.window h.slot
  if w.generation ≠ h.generation then s
  else if w.state = .draining ∧ w.refs - 1 = 0 then (s.clearSlot h.slot).noteFreed w.domain
  else s.setWindow h.slot { w with refs := w.refs - 1 }

/-! ## Notices (R38, R151) -/

/-- The data streams of one link that are bound to domain `d` (R76). -/
def boundStreams (row : Vector StreamEntry 15) (d : DomId) : StreamSet :=
  row.map fun x => decide (x.bound = some d)

/-- The union of two sets of streams. -/
def StreamSet.union (a b : StreamSet) : StreamSet := Vector.ofFn fun i => a[i] || b[i]

/-- A notice is pended for domain `d` on every link but `skip`: each stream bound to it joins its link's pending-notice
set (R38; for a peer's own change the requesting link is skipped, R151). -/
def State.pendNotice (d : DomId) (skip : Option LinkId) (s : State) : State :=
  { s with
    ports := Vector.ofFn fun l =>
      if skip = some l then s.ports[l]
      else { s.ports[l] with noticeSet := StreamSet.union (s.ports[l]).noticeSet (boundStreams s.bindings[l] d) } }

/-! ## Ending tracker entries (05_transactions_in_flight.md) -/

/-- What becomes of the fabric tag of an ISSUED entry that ends: it becomes free, or enters the quarantine with the
entry's target as its remembered target (R97, R99, R103, R105). -/
inductive TagFate where
  | freed
  | quarantined
  deriving DecidableEq, Repr

def TagFate.cond : TagFate → TargetId → TagCond
  | .freed, _ => .free
  | .quarantined, t => .quarantined t

/-- The request of a busy entry. -/
def Entry.request? : Entry → Option EntryReq
  | .free => none
  | .waitTag r => some r
  | .issued r _ _ => some r

def Entry.isFree : Entry → Bool
  | .free => true
  | .waitTag _ => false
  | .issued _ _ _ => false

def Entry.isIssued : Entry → Bool
  | .free => false
  | .waitTag _ => false
  | .issued _ _ _ => true

def Entry.isWaiting : Entry → Bool
  | .free => false
  | .waitTag _ => true
  | .issued _ _ _ => false

/-- A busy entry becomes FREE: a WAIT_TAG entry leaves its waiting list, an ISSUED entry's tag goes where `fate` says, and
the window reference is dropped (R97, R98). Replies are handed by the caller. -/
def State.endEntry (fate : TagFate) (l : LinkId) (e : EntryNo) (s : State) : State :=
  match s.entry l e with
  | .free => s
  | .waitTag r =>
    ((s.setEntry l e .free).setWaiting l ((s.waitList l).filter (fun j => decide (j ≠ e)))).dropRef r.window
  | .issued r t _ => ((s.setEntry l e .free).setTag t (fate.cond r.target)).dropRef r.window

/-- A busy entry ends with a reply handed to its link's port (R91). -/
def State.endWithReply (fate : TagFate) (answer : EntryReq → DataAnswer) (l : LinkId) (e : EntryNo) (s : State) : State :=
  match (s.entry l e).request? with
  | none => s
  | some r => (s.endEntry fate l e).handData l ⟨r.tag, r.stream, answer r⟩

/-- All tracker entries, link by link (log 16). -/
def allEntries : List (LinkId × EntryNo) :=
  (List.finRange 4).flatMap fun l => (List.finRange 8).map fun e => (l, e)

/-- The lowest-numbered FREE entry of a link (R89). -/
def State.freeEntry (s : State) (l : LinkId) : Option EntryNo :=
  (List.finRange 8).find? fun e => (s.entry l e).isFree

/-- The lowest-numbered free fabric tag (R93). -/
def State.freeTag (s : State) : Option TagNo :=
  (List.finRange 24).find? fun t => decide (s.tag t = .free)

/-- The number of a target's ISSUED entries (R109). -/
def State.issuedCount (s : State) (t : TargetId) : Nat :=
  allEntries.countP fun le => (s.entry le.1 le.2).isIssued && decide ((s.entry le.1 le.2).request?.map (·.target) = some t)

/-- The number of tags quarantined against a target (R109). -/
def State.quarantinedCount (s : State) (t : TargetId) : Nat :=
  (List.finRange 24).countP fun g => decide (s.tag g = .quarantined t)

/-- The number of a link's entries that are WAIT_TAG or ISSUED (R173). -/
def State.busyCount (s : State) (l : LinkId) : Nat :=
  (List.finRange 8).countP fun e => !(s.entry l e).isFree

/-! ## Links (09_peripheral_links.md) -/

/-- The parts of a port that the reset effects clear (R169, R156). -/
def LinkPort.resetEffects (p : LinkPort) : LinkPort :=
  { p with
    ingress := []
    outData := []
    outCtl := []
    dataCredits := 0
    unrepliedTags := Vector.replicate 16 false
    ctlCredits := 0
    unrepliedCtl := Vector.replicate 2 false
    noticeSet := StreamSet.none
    noticeCredit := .absent }

/-- Every busy entry of the link ends without reply; ISSUED entries' tags enter the quarantine (R105). -/
def State.endLinkEntries (l : LinkId) (s : State) : State :=
  ((List.finRange 8).foldl (fun s e => s.endEntry .quarantined l e) s).setWaiting l []

/-- Some entry of the link is ISSUED, so a link reset puts a tag in the quarantine (R105). -/
def State.linkHasIssued (s : State) (l : LinkId) : Bool := (List.finRange 8).any fun e => (s.entry l e).isIssued

/-- The reset effects of a link that leaves UP (R169, R105, R126, R156). -/
def State.leaveUp (l : LinkId) (s : State) : State :=
  let s1 := (s.endLinkEntries l).modPort l LinkPort.resetEffects
  let s2 := s1.setEngine { s1.engine with inband := s1.engine.inband.filter (fun q => decide (q.link ≠ l)) }
  let s3 := s2.raiseLink l .linkReset
  if s.linkHasIssued l then s3.raiseDev .quarantine else s3

/-- The link enters TRAINING: HELLO is sent and the HELLO timer set to 1 ms from now (R161). -/
def State.enterTraining (l : LinkId) (s : State) : State :=
  (s.modPort l fun p =>
    { p with state := .training, helloTimer := some (s.now + Config.helloPeriod), handshakeTimer := none }).send l .hello

/-- The link enters DOWN, and TRAINING at once if its signal is present (R160). -/
def State.enterDown (l : LinkId) (s : State) : State :=
  let s1 := s.modPort l fun p => { p with state := .down, helloTimer := none, handshakeTimer := none }
  if (s.port l).signal then s1.enterTraining l else s1

/-- The part-initiated reset of an UP link: reset effects, LINK_RESET sent, RESETTING with the handshake timer (R170). -/
def State.partReset (l : LinkId) (s : State) : State :=
  ((s.leaveUp l).send l .linkReset).modPort l fun p =>
    { p with state := .resetting, handshakeTimer := some (s.now + Config.handshakePeriod) }

/-- A protocol error on an UP link (R168). -/
def State.protocolError (l : LinkId) (c : ErrorCause) (s : State) : State :=
  ((s.modPort l fun p => { p with errorCause := some c }).raiseLink l .protocol).partReset l

/-! ## Takings at the Table Engine (07_the_table_engine.md) -/

/-- The engine's choice falls on the management slot (R124). -/
def Engine.servesMgmt (e : Engine) : Bool := e.slot.isSome && (e.inband.isEmpty || decide (e.lastServed = .inband))

/-- The engine's choice falls on the head of the in-band queue (R124). -/
def Engine.servesInband (e : Engine) : Bool :=
  !e.inband.isEmpty && (e.slot.isNone || decide (e.lastServed = .management))

/-- What carrying out a command gives: the state with its effects, the result code and the result items. -/
structure Done where
  state : State
  code : ResultCode
  items : List Word := []

/-- A refused command changes nothing and returns its code (R134). -/
def Done.refuse (c : ResultCode) (s : State) : Done := ⟨s, c, []⟩

/-- A command refused with the first failing check, or carried out (R134). -/
def Done.checked (c : Option ResultCode) (effect : Unit → Done) (s : State) : Done :=
  match c with
  | some code => Done.refuse code s
  | none => effect ()

/-- What every taking of a command does besides its effect: result registers, CMD_STATUS, slot, last served, CMD_DONE
(R131). -/
def finishCommand (seq : BitVec 8) (r : Done) : State :=
  ((r.state.setMgmt
      { r.state.mgmt with status := .done, seq := seq, results := resultWords r.code r.items }).setEngine
      { r.state.engine with slot := none, lastServed := .management }).raiseDev .cmdDone

/-- The engine takes the command in the management slot if the slot is the source it serves and the command's code is one
this row stands for; otherwise the event does not occur (R123, R124, log 2). -/
def takeCommand (mine : BitVec 8 → Bool) (act : Args → State → Done) (s : State) : Answer :=
  match s.engine.slot with
  | none => .next s
  | some c => if s.engine.servesMgmt && mine c.code then .next (finishCommand c.seq (act c.args s)) else .next s

/-- The row of the one command code `n`. -/
def codeIs (n : Nat) (c : BitVec 8) : Bool := decide (c.toNat = n)

/-- What carrying out a control request gives: the state with its effects, the result code and the reply body. -/
structure CtlDone where
  state : State
  code : ResultCode
  body : List Byte := []

/-- A refused control request changes nothing; its reply has no body (R134, R190). -/
def CtlDone.refuse (c : ResultCode) (s : State) : CtlDone := ⟨s, c, []⟩

/-- What every taking of a control request does besides its effect: it leaves the queue, last served becomes INBAND, the
reply is handed to the port of its link (R127). -/
def finishControl (q : CtlRequest) (rest : List CtlRequest) (r : CtlDone) : State :=
  (r.state.setEngine { r.state.engine with inband := rest, lastServed := .inband }).handCtl q.link
    ⟨q.tag, q.byte2, r.code, r.body⟩

/-- The engine takes the head of the in-band queue if that is the source it serves and the head's operation is this row's;
otherwise the event does not occur (R123, R124, log 2). -/
def takeControl (op : CtlOp) (act : CtlRequest → State → CtlDone) (s : State) : Answer :=
  match s.engine.inband with
  | [] => .next s
  | q :: rest =>
    if s.engine.servesInband && decide (q.op = op) then .next (finishControl q rest (act q s)) else .next s

/-- The number of the stream a control request names: the low four bits of byte 2 (R188). -/
def CtlRequest.streamNo (q : CtlRequest) : Nat := q.byte2.toNat % 16

/-- Orders 4 and 5 of R145: the named stream of the request's own link holds a binding, and the bound domain is ACTIVE. -/
def State.controlDomain (q : CtlRequest) (s : State) : Except ResultCode DomId :=
  match streamOf? q.streamNo with
  | none => .error .badStream
  | some st =>
    match (s.stream q.link st).bound with
    | none => .error .badStream
    | some d => if (s.domain d).state = .active then .ok d else .error .frozen

/-! ## Resets of the whole part (R174, R178) -/

/-- A link starts again after a reset of the part: DOWN, TRAINING at once if its signal is present; a link that was UP at a
device reset first sends LINK_RESET (R174). -/
def State.restartLink (wasUp : LinkId → Bool) (l : LinkId) (s : State) : State :=
  let s1 := if wasUp l then s.send l .linkReset else s
  (s1.setPort l (LinkPort.initial (s.port l).signal)).enterDown l

/-- The condition of a tag after a device reset: held tags pass to the quarantine against their entries' targets, the
others keep theirs (R108). -/
def State.tagAfterDeviceReset (s : State) (t : TagNo) : TagCond :=
  match s.tag t with
  | .free => .free
  | .quarantined g => .quarantined g
  | .held l e =>
    match s.entry l e with
    | .issued r _ _ => .quarantined r.target
    | .waitTag _ => .free
    | .free => .free

end Sys2Proof.Machine
end

