-- ==== Sys2Proof/Machine/Windows.lean ====
section
/-! DEFINITION. The commands on single windows: INSTALL, REPLACE, RETIRE, SUSPEND, RESUME, SET_BUDGET, READ_WINDOW
(01_windows.md section 1.6). Each has its checks in the order its table gives, then its effect. -/

namespace Sys2Proof.Machine

/-- The slot a handle names, once its classification is current. -/
def slotOf (h : RawHandle) : SlotId := Fin.ofNat 128 h.slot

/-- Step 3 of the check order for a command that names one window, then `next` for the window it names (R134). -/
def handleCheck (s : State) (h : RawHandle) (next : SlotId → Option ResultCode) : Option ResultCode :=
  match s.classify h with
  | .noSlot => some .badHandle
  | .stale => some .staleHandle
  | .current i => next i

/-- A domain accepts new windows: it is ACTIVE, FROZEN or HALTED (R14, R29). -/
def Domain.inService (x : Domain) : Bool :=
  match x.state with
  | .active => true
  | .frozen => true
  | .halted => true
  | .unused => false
  | .purging => false

/-- A window a management command writes, from its window spec and its budget pair, before it has a generation (R15, R17). -/
def specWindow (a : Args) (d : DomId) (rank : Nat) (st : WindowState) (budget : Option Nat) : Window where
  state := st
  generation := 0
  domain := d
  owner := .management
  rank := rank
  base := BitVec.ofNat 48 (argGeometry a).base
  sizeExp := (argGeometry a).sizeExp
  target := Fin.ofNat 4 (argTarget a)
  targetBase := BitVec.ofNat 64 (argGeometry a).targetBase
  perms := argPerms a
  budget := newBudget budget
  alert := false
  refs := 0

/-! ## INSTALL -/

/-- The checks of INSTALL, in order (R14). -/
def installCheck (a : Args) (s : State) : Option ResultCode :=
  let d := argField a 0 0 8
  let rank := argField a 0 8 8
  let initial := argField a 0 16 2
  if 15 < d ∨ Config.mgmtRankMax < rank ∨ 3 < argTarget a ∨ (argPerms a).legal = false
      ∨ budgetOk (argBudget a 6 7) = false ∨ 1 < initial then some .badArgument
  else if (s.domain (Fin.ofNat 16 d)).inService = false then some .domainState
  else if (argGeometry a).ok = false then some .badGeometry
  else if s.rankHeld (Fin.ofNat 16 d) rank = true then some .rankTaken
  else if s.lowestFree = none then some .tableFull
  else none

/-- The effect of an accepted INSTALL (R15). -/
def installEffect (a : Args) (s : State) : Done :=
  let d : DomId := Fin.ofNat 16 (argField a 0 0 8)
  let rank := argField a 0 8 8
  let st : WindowState := if argField a 0 16 2 = 0 then .live else .suspended
  match s.lowestFree with
  | none => Done.refuse .tableFull s
  | some i =>
    let t := (s.fillSlot i (specWindow a d rank st (argBudget a 6 7))).chainInsert d i rank
    ⟨t, .ok, [(t.handleOf i).word]⟩

def installAct (a : Args) (s : State) : Done := Done.checked (installCheck a s) (fun _ => installEffect a s) s

/-- INSTALL (R14, R15). -/
def execInstall (s : State) : Answer := takeCommand (codeIs 0x01) installAct s

/-! ## REPLACE -/

/-- The checks of REPLACE, in order (R16). -/
def replaceCheck (a : Args) (s : State) : Option ResultCode :=
  if 3 < argTarget a ∨ (argPerms a).legal = false ∨ budgetOk (argBudget a 6 7) = false then some .badArgument
  else handleCheck s (argHandle a 0) fun i =>
    if (s.window i).state = .draining then some .windowState
    else if (s.window i).owner = .self then some .notOwner
    else if (argGeometry a).ok = false then some .badGeometry
    else if s.lowestFree = none then some .tableFull
    else none

/-- The effect of an accepted REPLACE: fill the new slot, put it at the old slot's position, remove the old slot (R17). -/
def replaceEffect (a : Args) (s : State) : Done :=
  let old := slotOf (argHandle a 0)
  let w := s.window old
  match s.lowestFree with
  | none => Done.refuse .tableFull s
  | some i =>
    let s1 := s.fillSlot i (specWindow a w.domain w.rank .live (argBudget a 6 7))
    let s2 := s1.modDomain w.domain fun x => { x with chain := x.chain.map fun j => if j = old then i else j }
    let t := s2.removeWindow w.domain old
    ⟨t, removalResult w, [(t.handleOf i).word]⟩

def replaceAct (a : Args) (s : State) : Done := Done.checked (replaceCheck a s) (fun _ => replaceEffect a s) s

/-- REPLACE (R16, R17). -/
def execReplace (s : State) : Answer := takeCommand (codeIs 0x02) replaceAct s

/-! ## RETIRE -/

/-- The checks of RETIRE, in order (R19). -/
def retireCheck (a : Args) (s : State) : Option ResultCode :=
  handleCheck s (argHandle a 0) fun i => if (s.window i).state = .draining then some .windowState else none

/-- A change that management makes to a window pends a notice for its domain if the window is SELF-owned (R20, R21). -/
def State.noticeIfSelf (w : Window) (s : State) : State :=
  if w.owner = .self then s.pendNotice w.domain none else s

/-- The effect of an accepted RETIRE (R19, R20). -/
def retireEffect (a : Args) (s : State) : Done :=
  let i := slotOf (argHandle a 0)
  let w := s.window i
  ⟨(s.removeWindow w.domain i).noticeIfSelf w, removalResult w, []⟩

def retireAct (a : Args) (s : State) : Done := Done.checked (retireCheck a s) (fun _ => retireEffect a s) s

/-- RETIRE (R19, R20). -/
def execRetire (s : State) : Answer := takeCommand (codeIs 0x03) retireAct s

/-! ## SUSPEND and RESUME -/

/-- The checks of SUSPEND, in order (R21). -/
def suspendCheck (a : Args) (s : State) : Option ResultCode :=
  handleCheck s (argHandle a 0) fun i => if (s.window i).state ≠ .live then some .windowState else none

/-- The effect of an accepted SUSPEND (R21). -/
def suspendEffect (a : Args) (s : State) : Done :=
  let i := slotOf (argHandle a 0)
  let w := s.window i
  ⟨(s.setWindow i { w with state := .suspended }).noticeIfSelf w, .ok, []⟩

def suspendAct (a : Args) (s : State) : Done := Done.checked (suspendCheck a s) (fun _ => suspendEffect a s) s

/-- SUSPEND (R21). -/
def execSuspend (s : State) : Answer := takeCommand (codeIs 0x04) suspendAct s

/-- The checks of RESUME, in order (R22). -/
def resumeCheck (a : Args) (s : State) : Option ResultCode :=
  handleCheck s (argHandle a 0) fun i => if (s.window i).state ≠ .suspended then some .windowState else none

/-- The effect of an accepted RESUME (R22). -/
def resumeEffect (a : Args) (s : State) : Done :=
  let i := slotOf (argHandle a 0)
  let w := s.window i
  ⟨(s.setWindow i { w with state := .live }).noticeIfSelf w, .ok, []⟩

def resumeAct (a : Args) (s : State) : Done := Done.checked (resumeCheck a s) (fun _ => resumeEffect a s) s

/-- RESUME (R22). -/
def execResume (s : State) : Answer := takeCommand (codeIs 0x05) resumeAct s

/-! ## SET_BUDGET -/

/-- The checks of SET_BUDGET, in order (R23). -/
def setBudgetCheck (a : Args) (s : State) : Option ResultCode :=
  if budgetOk (argBudget a 1 2) = false then some .badArgument
  else handleCheck s (argHandle a 0) fun i => if (s.window i).state = .draining then some .windowState else none

/-- The effect of an accepted SET_BUDGET (R23). -/
def setBudgetEffect (a : Args) (s : State) : Done :=
  let i := slotOf (argHandle a 0)
  ⟨s.setWindow i { s.window i with budget := newBudget (argBudget a 1 2), alert := false }, .ok, []⟩

def setBudgetAct (a : Args) (s : State) : Done := Done.checked (setBudgetCheck a s) (fun _ => setBudgetEffect a s) s

/-- SET_BUDGET (R23). -/
def execSetBudget (s : State) : Answer := takeCommand (codeIs 0x06) setBudgetAct s

/-! ## READ_WINDOW -/

/-- The ten result words that show a window record (R24, R192). The two words of the set value and of the remaining value
come low word first, with no presence flag (log 23, DEDUCED); without a budget they read 0 (log 11). -/
def windowWords (w : Window) : List Word :=
  [ fieldWord 0 2 w.state.num ||| fieldWord 4 1 w.owner.num ||| fieldWord 8 3 w.perms.toNat
      ||| fieldWord 12 1 w.budget.isSome.toNat ||| fieldWord 13 1 w.alert.toNat
      ||| fieldWord 16 8 w.generation.toNat ||| fieldWord 24 8 w.domain.val,
    fieldWord 0 8 w.rank ||| fieldWord 8 8 w.sizeExp ||| fieldWord 16 8 w.target.val ||| fieldWord 24 8 w.refs ]
  ++ pairWords w.base.toNat ++ pairWords w.targetBase.toNat
  ++ pairWords ((w.budget.map (·.setValue)).getD 0) ++ pairWords ((w.budget.map (·.remaining)).getD 0)

/-- READ_WINDOW refuses a slot number of 128 or above and changes nothing (R24). -/
def readWindowAct (a : Args) (s : State) : Done :=
  Done.checked (if 127 < argField a 0 0 16 then some .badArgument else none)
    (fun _ => ⟨s, .ok, windowWords (s.window (Fin.ofNat 128 (argField a 0 0 16)))⟩) s

/-- READ_WINDOW (R24). -/
def execReadWindow (s : State) : Answer := takeCommand (codeIs 0x07) readWindowAct s

end Sys2Proof.Machine
end

