-- ==== Sys2Proof/Machine/Domains.lean ====
section
/-! DEFINITION. The commands on domains (02_domains_and_their_chains.md section 2.8). -/

namespace Sys2Proof.Machine

/-- The domain number in ARG0 7:0 (R192). -/
def argDomain (a : Args) : Nat := argField a 0 0 8

/-- The domain a command names, once its number is in range. -/
def argDom (a : Args) : DomId := Fin.ofNat 16 (argDomain a)

/-- The policies DOMAIN_OPEN and DOMAIN_SET give (R192). -/
def argMissPolicy (a : Args) : Option MissPolicy := MissPolicy.ofNat? (argField a 0 8 2)
def argCeiling (a : Args) : Perms := Perms.ofNat (argField a 0 12 3)
def argAllowance (a : Args) : Nat := argField a 0 16 5
def argFaultLimit (a : Args) : Nat := argField a 0 24 8

/-- The argument ranges of DOMAIN_OPEN and DOMAIN_SET (R39, R40). -/
def policiesOk (a : Args) : Bool :=
  decide (argDomain a ≤ 15) && (argMissPolicy a).isSome && decide (argFaultLimit a ≤ 255)
    && decide (argAllowance a ≤ Config.selfAllowanceMax) && (argCeiling a).legal

/-- The four fields both commands write (R39, R40). -/
def Domain.withPolicies (a : Args) (x : Domain) : Domain :=
  { x with
    missPolicy := (argMissPolicy a).getD .refuse
    faultLimit := argFaultLimit a
    selfAllowance := argAllowance a
    selfCeiling := argCeiling a }

/-! ## DOMAIN_OPEN, DOMAIN_SET -/

def domainOpenCheck (a : Args) (s : State) : Option ResultCode :=
  if policiesOk a = false then some .badArgument
  else if (s.domain (argDom a)).state ≠ .unused then some .domainState
  else none

def domainOpenEffect (a : Args) (s : State) : Done :=
  ⟨s.modDomain (argDom a) fun x => { x.withPolicies a with state := .active }, .ok, []⟩

def domainOpenAct (a : Args) (s : State) : Done := Done.checked (domainOpenCheck a s) (fun _ => domainOpenEffect a s) s

/-- DOMAIN_OPEN (R39). -/
def execDomainOpen (s : State) : Answer := takeCommand (codeIs 0x08) domainOpenAct s

def domainSetCheck (a : Args) (s : State) : Option ResultCode :=
  if policiesOk a = false then some .badArgument
  else if (s.domain (argDom a)).inService = false then some .domainState
  else if argAllowance a < (s.domain (argDom a)).selfCount then some .inUse
  else none

def domainSetEffect (a : Args) (s : State) : Done := ⟨s.modDomain (argDom a) (Domain.withPolicies a), .ok, []⟩

def domainSetAct (a : Args) (s : State) : Done := Done.checked (domainSetCheck a s) (fun _ => domainSetEffect a s) s

/-- DOMAIN_SET (R40). -/
def execDomainSet (s : State) : Answer := takeCommand (codeIs 0x09) domainSetAct s

/-! ## SET_FENCE -/

/-- The fence-present bit, ARG0 8 (R192). -/
def argFencePresent (a : Args) : Bool := (a[(0 : Fin 12)]).getLsbD 8

/-- The fence a command gives (R192). -/
def argFence (a : Args) : Fence where
  base := BitVec.ofNat 48 (argGeometry a).base
  sizeExp := (argGeometry a).sizeExp
  target := Fin.ofNat 4 (argTarget a)
  targetBase := BitVec.ofNat 64 (argGeometry a).targetBase

/-- The SELF windows on a domain's chain, in chain order (R30). -/
def State.selfWindows (s : State) (d : DomId) : List SlotId :=
  (s.domain d).chain.filter fun i => decide ((s.window i).owner = .self)

/-- Every SELF window on the domain's chain lies wholly within the fence (R41). -/
def State.fenceHolds (s : State) (d : DomId) (f : Fence) : Bool :=
  (s.selfWindows d).all fun i => f.contains (s.window i).base.toNat (s.window i).sizeExp

def setFenceCheck (a : Args) (s : State) : Option ResultCode :=
  if 15 < argDomain a ∨ (argFencePresent a = true ∧ 3 < argTarget a) then some .badArgument
  else if (s.domain (argDom a)).inService = false then some .domainState
  else if argFencePresent a = true ∧ (argGeometry a).ok = false then some .badGeometry
  else if argFencePresent a = true ∧ s.fenceHolds (argDom a) (argFence a) = false then some .inUse
  else if argFencePresent a = false ∧ 0 < (s.domain (argDom a)).selfCount then some .inUse
  else none

def setFenceEffect (a : Args) (s : State) : Done :=
  ⟨s.modDomain (argDom a) fun x => { x with fence := if argFencePresent a then some (argFence a) else none }, .ok, []⟩

def setFenceAct (a : Args) (s : State) : Done := Done.checked (setFenceCheck a s) (fun _ => setFenceEffect a s) s

/-- SET_FENCE (R41). -/
def execSetFence (s : State) : Answer := takeCommand (codeIs 0x0A) setFenceAct s

/-! ## FREEZE, THAW, HALT, RELEASE -/

/-- The checks of a domain command whose domain must be in one of some states. -/
def domainStateCheck (admits : DomainState → Bool) (a : Args) (s : State) : Option ResultCode :=
  if 15 < argDomain a then some .badArgument
  else if admits (s.domain (argDom a)).state = false then some .domainState
  else none

/-- A domain changes and a notice is pended for it (R38). -/
def domainChange (f : Domain → Domain) (a : Args) (s : State) : Done :=
  ⟨(s.modDomain (argDom a) f).pendNotice (argDom a) none, .ok, []⟩

def freezeCheck : Args → State → Option ResultCode := domainStateCheck fun st => decide (st = .active)
def freezeAct (a : Args) (s : State) : Done :=
  Done.checked (freezeCheck a s) (fun _ => domainChange (fun x => { x with state := .frozen }) a s) s

/-- FREEZE (R43). -/
def execFreeze (s : State) : Answer := takeCommand (codeIs 0x0B) freezeAct s

def thawCheck : Args → State → Option ResultCode := domainStateCheck fun st => decide (st = .frozen)
def thawAct (a : Args) (s : State) : Done :=
  Done.checked (thawCheck a s) (fun _ => domainChange (fun x => { x with state := .active }) a s) s

/-- THAW (R44). -/
def execThaw (s : State) : Answer := takeCommand (codeIs 0x0C) thawAct s

def haltCheck : Args → State → Option ResultCode :=
  domainStateCheck fun st => decide (st = .active) || decide (st = .frozen)
def haltAct (a : Args) (s : State) : Done :=
  Done.checked (haltCheck a s) (fun _ => domainChange (fun x => { x with state := .halted, haltCause := none }) a s) s

/-- HALT (R45). -/
def execHalt (s : State) : Answer := takeCommand (codeIs 0x0D) haltAct s

def releaseCheck : Args → State → Option ResultCode := domainStateCheck fun st => decide (st = .halted)
def releaseAct (a : Args) (s : State) : Done :=
  Done.checked (releaseCheck a s)
    (fun _ => domainChange (fun x => { x with state := .active, faultCount := 0, haltCause := none }) a s) s

/-- RELEASE (R46). -/
def execRelease (s : State) : Answer := takeCommand (codeIs 0x0E) releaseAct s

/-! ## PURGE -/

def purgeCheck (a : Args) (s : State) : Option ResultCode :=
  if 15 < argDomain a then some .badArgument
  else if (s.domain (argDom a)).inService = false then some .domainState
  else none

/-- Every stream bound to domain `d`, on every link, loses its binding and leaves its pending-notice set; the enabled field
and the unbound policy stay (R47 step 2, R84). -/
def State.unbindAll (d : DomId) (s : State) : State :=
  { s with
    bindings := s.bindings.map fun row => row.map fun x => if x.bound = some d then { x with bound := none } else x
    ports := Vector.ofFn fun l =>
      { s.ports[l] with
        noticeSet := Vector.ofFn fun st => (s.ports[l]).noticeSet[st] && !(boundStreams s.bindings[l] d)[st] } }

/-- Every window on the domain's chain is removed; the chain becomes empty and the self count 0 (R47 step 1). -/
def State.removeAll (d : DomId) (s : State) : State :=
  ((s.domain d).chain.foldl (fun s i => s.removeWindow d i) s).modDomain d fun x =>
    { x with chain := [], selfCount := 0 }

/-- The effect of an accepted PURGE (R47). -/
def purgeEffect (a : Args) (s : State) : Done :=
  let d := argDom a
  let t := (s.removeAll d).unbindAll d
  if (t.domain d).drainingCount = 0 then ⟨t.setDomain d Domain.unused, .ok, []⟩
  else ⟨t.modDomain d fun x => { x with state := .purging }, .pending, []⟩

def purgeAct (a : Args) (s : State) : Done := Done.checked (purgeCheck a s) (fun _ => purgeEffect a s) s

/-- PURGE (R47). -/
def execPurge (s : State) : Answer := takeCommand (codeIs 0x0F) purgeAct s

/-! ## READ_DOMAIN, READ_CHAIN -/

/-- The ten result words that show a domain record (R50, R192); fields of what is absent read 0 (log 11). -/
def domainWords (x : Domain) : List Word :=
  [ fieldWord 0 3 x.state.num ||| fieldWord 4 2 x.missPolicy.num ||| fieldWord 8 3 x.selfCeiling.toNat
      ||| fieldWord 12 1 x.haltCause.isSome.toNat ||| fieldWord 13 1 x.fence.isSome.toNat
      ||| fieldWord 16 8 x.faultLimit ||| fieldWord 24 8 x.faultCount,
    fieldWord 0 5 x.selfAllowance ||| fieldWord 8 5 x.selfCount ||| fieldWord 16 8 x.chain.length
      ||| fieldWord 24 8 x.drainingCount ]
  ++ (match x.haltCause with
      | none => [0, 0, 0]
      | some h =>
        (fieldWord 0 2 h.kind.num ||| fieldWord 8 2 h.link.val ||| fieldWord 16 4 (streamNum h.stream))
          :: pairWords h.addr.toNat)
  ++ (match x.fence with
      | none => [0, 0, 0, 0, 0]
      | some f =>
        (fieldWord 0 8 f.sizeExp ||| fieldWord 16 8 f.target.val)
          :: (pairWords f.base.toNat ++ pairWords f.targetBase.toNat))

/-- READ_DOMAIN is accepted in every state of the domain and changes nothing (R50). -/
def readDomainAct (a : Args) (s : State) : Done :=
  Done.checked (if 15 < argDomain a then some .badArgument else none)
    (fun _ => ⟨s, .ok, domainWords (s.domain (argDom a))⟩) s

/-- READ_DOMAIN (R50). -/
def execReadDomain (s : State) : Answer := takeCommand (codeIs 0x10) readDomainAct s

/-- Four slot numbers, one per byte from bits 7:0; 0 beyond the list's end (R192). -/
def slotsWord (xs : List SlotId) : Word :=
  fieldWord 0 8 ((xs.map (·.val)).getD 0 0) ||| fieldWord 8 8 ((xs.map (·.val)).getD 1 0)
    ||| fieldWord 16 8 ((xs.map (·.val)).getD 2 0) ||| fieldWord 24 8 ((xs.map (·.val)).getD 3 0)

/-- The words READ_CHAIN returns: chain length and count, then up to eight slots from the start position (R51, R192). -/
def chainWords (chain : List SlotId) (start : Nat) : List Word :=
  let page := (chain.drop start).take Config.chainPage
  [fieldWord 0 8 chain.length ||| fieldWord 8 8 page.length, slotsWord page, slotsWord (page.drop 4)]

def readChainAct (a : Args) (s : State) : Done :=
  Done.checked (if 15 < argDomain a ∨ Config.chainStartMax < argField a 0 8 8 then some .badArgument else none)
    (fun _ => ⟨s, .ok, chainWords (s.domain (argDom a)).chain (argField a 0 8 8)⟩) s

/-- READ_CHAIN (R51). -/
def execReadChain (s : State) : Answer := takeCommand (codeIs 0x11) readChainAct s

end Sys2Proof.Machine
end

