-- ==== Sys2Proof/Machine/Bindings.lean ====
section
/-! DEFINITION. The binding commands BIND, UNBIND and STREAM_SET (04_streams_and_bindings.md section 4.3). -/

namespace Sys2Proof.Machine

/-- The link and stream numbers in ARG0 7:0 and 15:8 (R192). -/
def argLinkNo (a : Args) : Nat := argField a 0 0 8
def argStreamNo (a : Args) : Nat := argField a 0 8 8
def argLink (a : Args) : LinkId := Fin.ofNat 4 (argLinkNo a)

/-! ## BIND -/

/-- The checks of BIND, in order (R79). -/
def bindCheck (a : Args) (s : State) : Option ResultCode :=
  let d := argField a 0 16 8
  if 3 < argLinkNo a then some .badArgument
  else match streamOf? (argStreamNo a) with
    | none => some .badStream
    | some st =>
      if 15 < d then some .badArgument
      else if (s.domain (Fin.ofNat 16 d)).inService = false then some .domainState
      else if (s.stream (argLink a) st).bound ≠ none then some .inUse
      else none

/-- The effect of an accepted BIND (R79). -/
def bindEffect (a : Args) (s : State) : Done :=
  match streamOf? (argStreamNo a) with
  | none => Done.refuse .badStream s
  | some st =>
    ⟨s.setStream (argLink a) st
        { s.stream (argLink a) st with bound := some (Fin.ofNat 16 (argField a 0 16 8)) }, .ok, []⟩

def bindAct (a : Args) (s : State) : Done := Done.checked (bindCheck a s) (fun _ => bindEffect a s) s

/-- BIND (R79). -/
def execBind (s : State) : Answer := takeCommand (codeIs 0x12) bindAct s

/-! ## UNBIND -/

/-- The checks of UNBIND, in order (R80). -/
def unbindCheck (a : Args) (s : State) : Option ResultCode :=
  if 3 < argLinkNo a then some .badArgument
  else match streamOf? (argStreamNo a) with
    | none => some .badStream
    | some st => if (s.stream (argLink a) st).bound = none then some .badStream else none

/-- The effect of an accepted UNBIND: the binding goes, and the stream leaves its link's pending-notice set (R80). -/
def unbindEffect (a : Args) (s : State) : Done :=
  match streamOf? (argStreamNo a) with
  | none => Done.refuse .badStream s
  | some st =>
    ⟨(s.setStream (argLink a) st { s.stream (argLink a) st with bound := none }).modPort (argLink a) fun p =>
        { p with noticeSet := p.noticeSet.set st false }, .ok, []⟩

def unbindAct (a : Args) (s : State) : Done := Done.checked (unbindCheck a s) (fun _ => unbindEffect a s) s

/-- UNBIND (R80). -/
def execUnbind (s : State) : Answer := takeCommand (codeIs 0x13) unbindAct s

/-! ## STREAM_SET -/

/-- The checks of STREAM_SET, in order (R81). -/
def streamSetCheck (a : Args) (_s : State) : Option ResultCode :=
  if 3 < argLinkNo a ∨ 1 < argField a 0 16 2 ∨ 1 < argField a 0 20 2 then some .badArgument
  else match streamOf? (argStreamNo a) with
    | none => some .badStream
    | some _ => none

/-- The effect of an accepted STREAM_SET (R81). -/
def streamSetEffect (a : Args) (s : State) : Done :=
  match streamOf? (argStreamNo a) with
  | none => Done.refuse .badStream s
  | some st =>
    ⟨s.setStream (argLink a) st
        { s.stream (argLink a) st with
          enabled := decide (argField a 0 16 2 = 1)
          unboundPolicy := if argField a 0 20 2 = 0 then .refuse else .absorb }, .ok, []⟩

def streamSetAct (a : Args) (s : State) : Done := Done.checked (streamSetCheck a s) (fun _ => streamSetEffect a s) s

/-- STREAM_SET (R81). -/
def execStreamSet (s : State) : Answer := takeCommand (codeIs 0x14) streamSetAct s

end Sys2Proof.Machine
end

