-- ==== Sys2Proof/Machine/Resolve.lean ====
section
/-! DEFINITION. The Resolution Unit: one resolution of a data request, its outcome, the changes a real resolution makes,
EXAMINATION, and the command PROBE (03_resolving_a_request.md, 05 R88 to R90, 07 R138 to R140). -/

namespace Sys2Proof.Machine

/-- Where the four stages of a resolution end, before the treatment of speculative reads (R56 to R65). -/
inductive Ruling where
  | noStream
  | unbound (p : UnboundPolicy)
  | halted
  | miss (d : DomId) (p : MissPolicy)
  | suspended (d : DomId) (i : SlotId)
  | boundary (d : DomId) (i : SlotId)
  | access (d : DomId) (i : SlotId)
  | targetOffline (d : DomId) (i : SlotId)
  | budget (d : DomId) (i : SlotId)
  | admits (d : DomId) (i : SlotId)
  deriving DecidableEq, Repr

/-- The first window of the domain's chain, in rank order, whose range contains the first byte (R59). -/
def State.decidingWindow (s : State) (d : DomId) (a : InAddr) : Option SlotId :=
  (s.domain d).chain.find? fun i => covers (s.window i).base (s.window i).sizeExp a.toNat

/-- The window permits the request's kind (R63). -/
def Window.permits (w : Window) : ReqKind → Bool
  | .wr => w.perms.write
  | .rd => w.perms.read
  | .rds => w.perms.read && w.perms.speculative

/-- The window has budget for `len` bytes (R65). -/
def Window.affords (w : Window) (len : Nat) : Bool :=
  match w.budget with
  | none => true
  | some b => decide (len ≤ b.remaining)

/-- Stage four: the five checks of the deciding window, in order (R61 to R65). -/
def State.windowRuling (s : State) (d : DomId) (i : SlotId) (q : Request) : Ruling :=
  let w := s.window i
  if w.state ≠ .live then .suspended d i
  else if w.base.toNat + 2 ^ w.sizeExp ≤ q.addr.toNat + q.length - 1 then .boundary d i
  else if w.permits q.kind = false then .access d i
  else if s.target w.target = .offline then .targetOffline d i
  else if w.affords q.length = false then .budget d i
  else .admits d i

/-- The four stages in order (R56 to R65). A bound domain is ACTIVE, FROZEN or HALTED; in the states no run reaches, a
bound UNUSED or PURGING domain is walked like an ACTIVE one (log 9). -/
def State.ruling (s : State) (q : Request) : Ruling :=
  let x := s.stream q.link q.stream
  if x.enabled = false then .noStream
  else match x.bound with
    | none => .unbound x.unboundPolicy
    | some d =>
      if (s.domain d).state = .halted then .halted
      else match s.decidingWindow d q.addr with
        | none => .miss d (s.domain d).missPolicy
        | some i => s.windowRuling d i q

/-- The outcome of a resolution (R53). -/
inductive OutcomeCode where
  | refused (c : ReplyCode)
  | absorbed
  | admitted
  deriving DecidableEq, Repr

/-- The outcome for a WR or an RD (the outcome table of section 3.6). -/
def Ruling.plainOutcome : Ruling → OutcomeCode
  | .noStream => .refused .noStream
  | .unbound .refuse => .refused .noRoute
  | .unbound .absorb => .absorbed
  | .halted => .refused .domainHalted
  | .miss _ .refuse => .refused .noWindow
  | .miss _ .refuseQuiet => .refused .noWindow
  | .miss _ .absorb => .absorbed
  | .suspended _ _ => .refused .suspended
  | .boundary _ _ => .refused .boundary
  | .access _ _ => .refused .access
  | .targetOffline _ _ => .refused .targetOffline
  | .budget _ _ => .refused .budget
  | .admits _ _ => .admitted

/-- The outcome for an RDS: every outcome but ADMITTED and NO_STREAM becomes SPEC_DECLINED (R55). -/
def Ruling.specOutcome (r : Ruling) : OutcomeCode :=
  match r.plainOutcome with
  | .admitted => .admitted
  | .refused .noStream => .refused .noStream
  | _ => .refused .specDeclined

/-- The outcome for a request of a kind (R53, R55). -/
def Ruling.outcome (k : ReqKind) (r : Ruling) : OutcomeCode :=
  match k with
  | .wr => r.plainOutcome
  | .rd => r.plainOutcome
  | .rds => r.specOutcome

/-- The window that decided the request at stage three, whatever its checks gave (R74). -/
def Ruling.decided : Ruling → Option SlotId
  | .noStream => none
  | .unbound _ => none
  | .halted => none
  | .miss _ _ => none
  | .suspended _ i => some i
  | .boundary _ i => some i
  | .access _ i => some i
  | .targetOffline _ i => some i
  | .budget _ i => some i
  | .admits _ i => some i

/-! ## The changes of a real resolution -/

/-- The count after one more fault: 255 stays 255 (R33). -/
def countUp (n : Nat) : Nat := min Config.faultCountMax (n + 1)

/-- A fault counted against a domain, and the halt when the count reaches a nonzero limit (R33, R34, R68). -/
def State.countFault (d : DomId) (kind : FaultKind) (q : Request) (s : State) : State :=
  let x := s.domain d
  let n := countUp x.faultCount
  if x.faultLimit ≠ 0 ∧ x.faultLimit ≤ n then
    ((s.setDomain d
        { x with state := .halted, faultCount := n, haltCause := some ⟨kind, q.link, q.stream, q.addr⟩ }).raiseDom
      d .domainHalted).pendNotice d none
  else s.setDomain d { x with faultCount := n }

/-- The budget alert of a window is set; set from clear it raises BUDGET_SPENT for the window's domain (R12, R13). -/
def State.setAlert (i : SlotId) (s : State) : State :=
  let w := s.window i
  if w.alert then s else (s.setWindow i { w with alert := true }).raiseDom w.domain .budgetSpent

/-- An admission of `len` bytes through a window: the charge with its alert, and the reference (R66, R12, R8). -/
def State.charge (i : SlotId) (len : Nat) (s : State) : State :=
  let w := s.window i
  let s1 := s.setWindow i
    { w with budget := w.budget.map fun b => { b with remaining := b.remaining - len }, refs := w.refs + 1 }
  match w.budget with
  | none => s1
  | some b => if b.remaining - len = 0 then s1.setAlert i else s1

/-- A stream joins its link's unbound-arrival set; joining an empty set raises UNBOUND (R57, R77). -/
def State.noteUnbound (l : LinkId) (st : DataStream) (s : State) : State :=
  let m := (s.port l).unboundSet
  let s1 := s.modPort l fun p => { p with unboundSet := m.set st true }
  if m = StreamSet.none then s1.raiseLink l .unbound else s1

/-- The changes for a WR or an RD (outcome table of section 3.6). -/
def State.plainChanges (q : Request) (r : Ruling) (s : State) : State :=
  match r with
  | .noStream => s
  | .unbound _ => s.noteUnbound q.link q.stream
  | .halted => s
  | .miss d .refuse => s.countFault d .noWindow q
  | .miss _ .refuseQuiet => s
  | .miss _ .absorb => s
  | .suspended _ _ => s
  | .boundary d _ => s.countFault d .boundary q
  | .access d _ => s.countFault d .access q
  | .targetOffline _ _ => s
  | .budget _ i => s.setAlert i
  | .admits _ i => s.charge i q.length

/-- The changes for an RDS: none unless it is admitted (R55). -/
def State.specChanges (q : Request) (r : Ruling) (s : State) : State :=
  match r with
  | .admits _ i => s.charge i q.length
  | _ => s

/-- The changes a real resolution makes at the tables (R53). -/
def State.resolutionChanges (q : Request) (r : Ruling) (s : State) : State :=
  match q.kind with
  | .wr => s.plainChanges q r
  | .rd => s.plainChanges q r
  | .rds => s.specChanges q r

/-- The answer to an absorbed request: DONE for a WR, DATA of as many zero bytes as its length for an RD (R69). -/
def absorbedAnswer (q : Request) : DataAnswer :=
  match q.kind with
  | .wr => .done
  | .rd => .data (List.replicate q.length 0)
  | .rds => .data (List.replicate q.length 0)

/-- The request as the tracker entry takes it, admitted through the window in slot `i` (R66, R67, R90). -/
def State.admitted (s : State) (q : Request) (i : SlotId) : EntryReq where
  tag := q.tag
  kind := q.kind
  stream := q.stream
  length := q.length
  window := s.handleOf i
  target := (s.window i).target
  addr := (s.window i).translate q.addr
  data := q.data

/-- An admitted request enters the reserved entry as WAIT_TAG and joins the tail of its link's waiting list (R90). -/
def State.enterTracker (l : LinkId) (e : EntryNo) (r : EntryReq) (s : State) : State :=
  (s.setEntry l e (.waitTag r)).setWaiting l (s.waitList l ++ [e])

/-- One examination of the head `q` of the ingress queue of link `l`, with entry `e` reserved (R88, R89). -/
def State.examine (l : LinkId) (e : EntryNo) (q : Request) (rest : List Request) (s : State) : State :=
  let r := s.ruling q
  let t := (s.modPort l fun p => { p with ingress := rest }).resolutionChanges q r
  match r.outcome q.kind with
  | .refused c => t.handData l ⟨q.tag, q.stream, .refused c⟩
  | .absorbed => t.handData l ⟨q.tag, q.stream, absorbedAnswer q⟩
  | .admitted =>
    match r.decided with
    | none => t
    | some i => t.enterTracker l e (s.admitted q i)

/-- EXAMINATION: taken when the link is UP, its queue holds a request and one of its entries is FREE (R88). -/
def execExamination (l : LinkId) (s : State) : Answer :=
  match (s.port l).ingress, s.freeEntry l with
  | q :: rest, some e => if (s.port l).state = .up then .next (s.examine l e q rest) else .next s
  | _, _ => .next s

/-! ## PROBE -/

/-- Outcome codes in PROBE's result (R187). -/
def OutcomeCode.num : OutcomeCode → Nat
  | .refused c => c.num
  | .absorbed => 0x20
  | .admitted => 0x21

def ReqKind.ofNat? : Nat → Option ReqKind
  | 0 => some .wr
  | 1 => some .rd
  | 2 => some .rds
  | _ => none

/-- PROBE's kind field, ARG0 17:16, its length and its address (R192). -/
def argKind (a : Args) : Option ReqKind := ReqKind.ofNat? (argField a 0 16 2)
def argLength (a : Args) : Nat := argField a 1 0 16
def argAddress (a : Args) : Nat := argPair a 2 3

/-- The checks of PROBE, in order (R138). -/
def probeCheck (a : Args) (_s : State) : Option ResultCode :=
  if 3 < argLinkNo a then some .badArgument
  else if streamOf? (argStreamNo a) = none then some .badStream
  else if argKind a = none then some .badArgument
  else if argLength a = 0 ∨ Config.maxLength < argLength a then some .badArgument
  else if Config.inputSpace ≤ argAddress a ∨ Config.inputSpace ≤ argAddress a + argLength a - 1 then some .badArgument
  else none

/-- The request PROBE describes; its peer tag and data are unread (R54, R138). -/
def probeRequest (a : Args) (st : DataStream) (k : ReqKind) : Request where
  link := argLink a
  tag := 0
  kind := k
  stream := st
  addr := BitVec.ofNat 48 (argAddress a)
  length := argLength a
  data := none

/-- PROBE's result words: outcome and decided, the deciding window's handle, the translated address (R139, R192). -/
def State.probeWords (s : State) (q : Request) : List Word :=
  let r := s.ruling q
  let first := fieldWord 0 8 (r.outcome q.kind).num ||| fieldWord 8 1 r.decided.isSome.toNat
  match r.decided with
  | none => [first, 0, 0, 0]
  | some i => [first, (s.handleOf i).word] ++ pairWords ((s.window i).translate q.addr).toNat

/-- A probe resolution makes no change (R74). -/
def probeEffect (a : Args) (s : State) : Done :=
  match streamOf? (argStreamNo a), argKind a with
  | some st, some k => ⟨s, .ok, s.probeWords (probeRequest a st k)⟩
  | _, _ => Done.refuse .badArgument s

def probeAct (a : Args) (s : State) : Done := Done.checked (probeCheck a s) (fun _ => probeEffect a s) s

/-- PROBE (R138, R139). -/
def execProbe (s : State) : Answer := takeCommand (codeIs 0x18) probeAct s

/-- A command code the part does not know: 0x00 or above 0x18 (R193). -/
def unknownCode (c : BitVec 8) : Bool := decide (c.toNat = 0) || decide (0x18 < c.toNat)

/-- An unknown command is refused BAD_COMMAND; none of its arguments is read (R134, R135). -/
def badCommandAct (_a : Args) (s : State) : Done := Done.refuse .badCommand s

/-- BAD_COMMAND (R134). -/
def execBadCommand (s : State) : Answer := takeCommand unknownCode badCommandAct s

end Sys2Proof.Machine
end

