-- ==== Sys2Proof/Machine/InBand.lean ====
section
/-! DEFINITION. The control requests OPEN, CLOSE, NARROW and STATUS as the Table Engine takes them
(08_in_band_control.md sections 8.2 and 8.3). -/

namespace Sys2Proof.Machine

/-- What an accepted OPEN, CLOSE or NARROW does besides its own effect: SELF_CHANGED, and a notice on the other links
(R151). -/
def State.selfChanged (q : CtlRequest) (d : DomId) (s : State) : State :=
  (s.raiseDom d .selfChanged).pendNotice d (some q.link)

/-! ## OPEN -/

/-- OPEN's base, size exponent and permissions (R190). -/
def CtlRequest.openGeometry (q : CtlRequest) : Geometry := ⟨(byteAt q.body 8).toNat, fieldAtBytes q.body 0 8, 0⟩
def CtlRequest.openPerms (q : CtlRequest) : Perms := Perms.ofNat (byteAt q.body 9).toNat

/-- The lowest rank from 128 to 255 that no window on the chain holds (R147 step 3). One always exists; the last rank
stands for the states no run reaches (log 9). -/
def State.selfRank (s : State) (d : DomId) : Nat :=
  (((List.range 128).map (· + Config.selfRankMin)).find? fun r => !(s.rankHeld d r)).getD 255

/-- The checks of OPEN, in order (R145, R146); an accepted OPEN gives its domain. -/
def openCheck (q : CtlRequest) (s : State) : Except ResultCode DomId :=
  if streamOf? q.streamNo = none then .error .badStream
  else if q.openPerms.legal = false then .error .badArgument
  else match s.controlDomain q with
    | .error c => .error c
    | .ok d =>
      if q.openGeometry.areaOk = false then .error .badGeometry
      else match (s.domain d).fence with
        | none => .error .outsideFence
        | some f =>
          if f.contains q.openGeometry.base q.openGeometry.sizeExp = false then .error .outsideFence
          else if q.openPerms.subset (s.domain d).selfCeiling = false then .error .ceiling
          else if (s.domain d).selfCount = (s.domain d).selfAllowance then .error .allowance
          else if s.lowestFree = none then .error .tableFull
          else .ok d

/-- The window OPEN creates, before it has a generation: target and target base derived from the fence (R147, R36). -/
def CtlRequest.selfWindow (q : CtlRequest) (d : DomId) (f : Fence) (rank : Nat) : Window where
  state := .live
  generation := 0
  domain := d
  owner := .self
  rank := rank
  base := BitVec.ofNat 48 q.openGeometry.base
  sizeExp := q.openGeometry.sizeExp
  target := f.target
  targetBase := f.targetBase + (BitVec.ofNat 48 q.openGeometry.base - f.base).setWidth 64
  perms := q.openPerms
  budget := none
  alert := false
  refs := 0

/-- The effect of an accepted OPEN (R147, R151). -/
def openEffect (q : CtlRequest) (d : DomId) (s : State) : CtlDone :=
  match s.lowestFree, (s.domain d).fence with
  | some i, some f =>
    let rank := s.selfRank d
    let s1 := (s.fillSlot i (q.selfWindow d f rank)).chainInsert d i rank
    let t := s1.modDomain d fun x => { x with selfCount := x.selfCount + 1 }
    ⟨t.selfChanged q d, .ok, (t.handleOf i).bytes⟩
  | _, _ => CtlDone.refuse .tableFull s

def openAct (q : CtlRequest) (s : State) : CtlDone :=
  match openCheck q s with
  | .error c => CtlDone.refuse c s
  | .ok d => openEffect q d s

/-- OPEN (R146, R147). -/
def execOpenWindow (s : State) : Answer := takeControl .openWindow openAct s

/-! ## CLOSE and NARROW -/

/-- The checks CLOSE and NARROW share, in order (R145, R148, R149); an accepted request gives its domain and window. -/
def ownWindowCheck (q : CtlRequest) (s : State) : Except ResultCode (DomId × SlotId) :=
  if streamOf? q.streamNo = none then .error .badStream
  else match s.classify (bodyHandle q.body) with
    | .noSlot => .error .badHandle
    | .stale => .error .staleHandle
    | .current i =>
      match s.controlDomain q with
      | .error c => .error c
      | .ok d =>
        if (s.window i).state = .draining then .error .windowState
        else if (s.window i).owner ≠ .self ∨ (s.window i).domain ≠ d then .error .notOwner
        else .ok (d, i)

/-- The effect of an accepted CLOSE (R148, R151). -/
def closeEffect (q : CtlRequest) (d : DomId) (i : SlotId) (s : State) : CtlDone :=
  ⟨(s.removeWindow d i).selfChanged q d, removalResult (s.window i), []⟩

def closeAct (q : CtlRequest) (s : State) : CtlDone :=
  match ownWindowCheck q s with
  | .error c => CtlDone.refuse c s
  | .ok (d, i) => closeEffect q d i s

/-- CLOSE (R148). -/
def execCloseWindow (s : State) : Answer := takeControl .closeWindow closeAct s

/-- The effect of an accepted NARROW (R149, R151). -/
def narrowEffect (q : CtlRequest) (d : DomId) (i : SlotId) (s : State) : CtlDone :=
  let w := s.window i
  let p := w.perms.narrowTo (Perms.ofNat (byteAt q.body 4).toNat)
  ⟨(s.setWindow i { w with perms := p }).selfChanged q d, .ok, [BitVec.ofNat 8 p.toNat, 0, 0, 0]⟩

def narrowAct (q : CtlRequest) (s : State) : CtlDone :=
  match ownWindowCheck q s with
  | .error c => CtlDone.refuse c s
  | .ok (d, i) => narrowEffect q d i s

/-- NARROW (R149). -/
def execNarrow (s : State) : Answer := takeControl .narrow narrowAct s

/-! ## STATUS -/

/-- The body of a STATUS reply: eight fixed bytes, then one entry for each SELF window in chain order (R150, R190). -/
def State.statusBody (s : State) (d : DomId) : List Byte :=
  let x := s.domain d
  [BitVec.ofNat 8 x.state.num, BitVec.ofNat 8 x.faultCount, BitVec.ofNat 8 x.selfAllowance, BitVec.ofNat 8 x.selfCount,
    0, 0, 0, 0] ++ (s.selfWindows d).flatMap fun i => statusEntry (s.handleOf i) (s.window i)

/-- STATUS has no refusal beyond the common checks and changes nothing (R150). -/
def statusAct (q : CtlRequest) (s : State) : CtlDone :=
  match s.controlDomain q with
  | .error c => CtlDone.refuse c s
  | .ok d => ⟨s, .ok, s.statusBody d⟩

/-- STATUS (R150). -/
def execStatus (s : State) : Answer := takeControl .status statusAct s

end Sys2Proof.Machine
end

