-- ==== Sys2Proof/Machine/FabricSide.lean ====
section
/-! DEFINITION. The fabric side and the tracker: TARGET_SET, SET_TIMEOUT, GRANT, COMPLETION, DEADLINE_EXPIRY
(05_transactions_in_flight.md, 06_the_fabric_side.md). -/

namespace Sys2Proof.Machine

/-! ## TARGET_SET -/

/-- The entries to a target that satisfy `p` (R102, R103). -/
def State.entriesTo (s : State) (t : TargetId) (p : Entry → Bool) : List (LinkId × EntryNo) :=
  allEntries.filter fun le =>
    p (s.entry le.1 le.2) && decide ((s.entry le.1 le.2).request?.map (·.target) = some t)

/-- Entries end one after another with the reply REFUSED TARGET_ERROR (R102, R103, log 16). -/
def State.endAll (les : List (LinkId × EntryNo)) (s : State) : State :=
  les.foldl (fun s le => s.endWithReply .freed (fun _ => .refused .targetError) le.1 le.2) s

/-- A target goes OFFLINE: its WAIT_TAG entries end with TARGET_ERROR (R102, R115). -/
def State.targetOffline (t : TargetId) (s : State) : State :=
  (s.endAll (s.entriesTo t Entry.isWaiting)).setTarget t .offline

/-- Every tag quarantined against a target becomes free (R103). -/
def State.freeQuarantined (t : TargetId) (s : State) : State :=
  s.setFabric { s.fabric with tags := s.fabric.tags.map fun c => if c = .quarantined t then .free else c }

/-- A target returns: its ISSUED entries end with TARGET_ERROR and its quarantined tags become free (R103, R116). -/
def State.targetReturn (t : TargetId) (s : State) : State :=
  ((s.endAll (s.entriesTo t Entry.isIssued)).freeQuarantined t).setTarget t .online

/-- TARGET_SET's result word: state before, entries ended, tags freed (R114, R192). -/
def targetSetWord (before : TargetState) (ended freed : Nat) : Word :=
  fieldWord 0 1 before.num ||| fieldWord 8 8 ended ||| fieldWord 16 8 freed

/-- The checks of TARGET_SET (R114). -/
def targetSetCheck (a : Args) (_s : State) : Option ResultCode :=
  if 3 < argField a 0 0 8 ∨ 1 < argField a 0 8 2 then some .badArgument else none

/-- The four cases of an accepted TARGET_SET (R114). The references that the ended entries drop act as R9 and R49 give, so
WINDOW_FREED and DOMAIN_PURGED may be set beside CMD_DONE, although R114 names CMD_DONE alone (log 22, DEDUCED). -/
def targetSetEffect (a : Args) (s : State) : Done :=
  let t : TargetId := Fin.ofNat 4 (argField a 0 0 8)
  match s.target t, decide (argField a 0 8 2 = 1) with
  | .online, true => ⟨s, .ok, [targetSetWord .online 0 0]⟩
  | .offline, false => ⟨s, .ok, [targetSetWord .offline 0 0]⟩
  | .online, false => ⟨s.targetOffline t, .ok, [targetSetWord .online (s.entriesTo t Entry.isWaiting).length 0]⟩
  | .offline, true =>
    ⟨s.targetReturn t, .ok, [targetSetWord .offline (s.entriesTo t Entry.isIssued).length (s.quarantinedCount t)]⟩

def targetSetAct (a : Args) (s : State) : Done := Done.checked (targetSetCheck a s) (fun _ => targetSetEffect a s) s

/-- TARGET_SET (R114). -/
def execTargetSet (s : State) : Answer := takeCommand (codeIs 0x15) targetSetAct s

/-! ## SET_TIMEOUT -/

/-- SET_TIMEOUT's argument, ARG0 31:0 (R192). -/
def argTimeout (a : Args) : Nat := argField a 0 0 32

/-- SET_TIMEOUT: the setting changes for later grants, the result is the setting before (R118). -/
def setTimeoutAct (a : Args) (s : State) : Done :=
  Done.checked
    (if argTimeout a < Config.timeoutMin ∨ Config.timeoutMax < argTimeout a then some .badArgument else none)
    (fun _ => ⟨s.setFabric { s.fabric with timeout := argTimeout a }, .ok, [fieldWord 0 32 s.fabric.timeout]⟩) s

/-- SET_TIMEOUT (R118). -/
def execSetTimeout (s : State) : Answer := takeCommand (codeIs 0x16) setTimeoutAct s

/-! ## GRANT -/

/-- The links in the order the arbiter searches them: from the one after the last granted to the last granted (R93). -/
def searchOrder (last : LinkId) : List LinkId := [last + 1, last + 2, last + 3, last]

/-- The link the arbiter serves next: the first in search order with a non-empty waiting list (R93). -/
def State.nextLink (s : State) : Option LinkId :=
  (searchOrder s.fabric.lastGranted).find? fun l => !(s.waitList l).isEmpty

/-- The fabric request of an entry granted a tag (R111); an RDS is sent as a read. -/
def fabricRequest (r : EntryReq) (g : TagNo) : FabricRequest where
  target := r.target
  tag := g
  write := decide (r.kind = .wr)
  addr := r.addr
  length := r.length
  data := r.data

/-- Entry `e` of link `l`, at the head of its waiting list, is granted tag `g` (R93, R94). -/
def State.grantTag (l : LinkId) (e : EntryNo) (r : EntryReq) (g : TagNo) (s : State) : State :=
  let s1 := (s.setEntry l e (.issued r g (s.now + s.fabric.timeout))).setWaiting l (s.waitList l).tail
  ((s1.setTag g (.held l e)).setFabric { (s1.setTag g (.held l e)).fabric with lastGranted := l }).sendFabric
    (fabricRequest r g)

/-- GRANT: taken when a tag is free and an entry waits (R93). -/
def execGrant (s : State) : Answer :=
  match s.freeTag, s.nextLink with
  | some g, some l =>
    match (s.waitList l).head? with
    | none => .next s
    | some e =>
      match s.entry l e with
      | .waitTag r => .next (s.grantTag l e r g)
      | .free => .next s
      | .issued _ _ _ => .next s
  | _, _ => .next s

/-! ## COMPLETION -/

/-- The reply a completion gives the entry it ends (R97, R113). -/
def completionAnswer (st : CompletionStatus) (data : List Byte) (r : EntryReq) : DataAnswer :=
  match st, r.kind with
  | .error, _ => .refused .targetError
  | .ok, .wr => .done
  | .ok, _ => if data.length = r.length then .data data else .refused .targetError

/-- COMPLETION: matched by its tag alone (R96, R97). -/
def execCompletion (tag : Nat) (st : CompletionStatus) (data : List Byte) (s : State) : Answer :=
  if h : tag < 24 then
    match s.tag ⟨tag, h⟩ with
    | .free => .next (s.raiseDev .strayCompletion)
    | .quarantined _ => .next ((s.setTag ⟨tag, h⟩ .free).raiseDev .lateCompletion)
    | .held l e => .next (s.endWithReply .freed (completionAnswer st data) l e)
  else .next (s.raiseDev .strayCompletion)

/-! ## DEADLINE_EXPIRY -/

/-- The clock at the moment a timer set for `t` expires: at least `t` (log 4). -/
def State.reach (t : Nat) (s : State) : State := s.setNow (max s.now t)

/-- DEADLINE_EXPIRY of an ISSUED entry: REFUSED TIMEOUT, the tag enters the quarantine, QUARANTINE is set (R99). An entry
that is not ISSUED has no deadline and the event does not occur (R101, log 2). -/
def execDeadlineExpiry (l : LinkId) (e : EntryNo) (s : State) : Answer :=
  match s.entry l e with
  | .issued _ _ deadline =>
    .next ((((s.reach deadline).endWithReply .quarantined (fun _ => .refused .timeout) l e)).raiseDev .quarantine)
  | .waitTag _ => .next s
  | .free => .next s

end Sys2Proof.Machine
end

