-- ==== Sys2Proof/Machine/Links.lean ====
section
/-! DEFINITION. The Link Ports: LINK_SET, arriving messages, the signal, the timers, NOTICE and the sending of replies
(09_peripheral_links.md, 08_in_band_control.md). -/

namespace Sys2Proof.Machine

/-! ## LINK_SET -/

/-- The checks of LINK_SET (R172). -/
def linkSetCheck (a : Args) (_s : State) : Option ResultCode :=
  if 3 < argLinkNo a ∨ 2 < argField a 0 8 2 then some .badArgument else none

/-- LINK_SET ENABLE (R172). -/
def State.linkEnable (l : LinkId) (s : State) : State :=
  if (s.port l).state = .disabled then s.enterDown l else s

/-- A link enters DISABLED with its timers withdrawn (R172). -/
def State.enterDisabled (l : LinkId) (s : State) : State :=
  s.modPort l fun p => { p with state := .disabled, helloTimer := none, handshakeTimer := none }

/-- LINK_SET DISABLE: from UP with the reset effects and a LINK_RESET to the peer (R172). -/
def State.linkDisable (l : LinkId) (s : State) : State :=
  match (s.port l).state with
  | .disabled => s
  | .up => ((s.leaveUp l).send l .linkReset).enterDisabled l
  | .down => s.enterDisabled l
  | .training => s.enterDisabled l
  | .resetting => s.enterDisabled l

/-- LINK_SET RESET: the part-initiated reset of an UP link (R172, R170). -/
def State.linkResetAction (l : LinkId) (s : State) : State :=
  if (s.port l).state = .up then s.partReset l else s

/-- The effect of an accepted LINK_SET, and its result word: state before and after (R172, R192). -/
def linkSetEffect (a : Args) (s : State) : Done :=
  let l := argLink a
  let t :=
    if argField a 0 8 2 = 0 then s.linkEnable l
    else if argField a 0 8 2 = 1 then s.linkDisable l
    else s.linkResetAction l
  ⟨t, .ok, [fieldWord 0 3 (s.port l).state.num ||| fieldWord 8 3 (t.port l).state.num]⟩

def linkSetAct (a : Args) (s : State) : Done := Done.checked (linkSetCheck a s) (fun _ => linkSetEffect a s) s

/-- LINK_SET (R172). -/
def execLinkSet (s : State) : Answer := takeCommand (codeIs 0x17) linkSetAct s

/-! ## Data requests -/

/-- The checks of an arriving data request on an UP link, in order (R164). -/
def dataCheck (p : LinkPort) (tag : PeerTag) (stream : StreamNo) (addr : InAddr) (len : Nat) : Option ErrorCause :=
  if stream = 0 then some .streamZero
  else if len = 0 ∨ Config.maxLength < len then some .badLength
  else if Config.inputSpace ≤ addr.toNat + len - 1 then some .badRange
  else if p.dataCredits = 0 then some .noDataCredit
  else if p.unrepliedTags[tag] = true then some .duplicateTag
  else none

/-- An accepted request joins the tail of the ingress queue and spends a credit (R163, R164). -/
def LinkPort.accept (q : Request) (p : LinkPort) : LinkPort :=
  { p with
    ingress := p.ingress ++ [q]
    dataCredits := p.dataCredits - 1
    unrepliedTags := p.unrepliedTags.set q.tag true }

/-- A data request arrives: discarded unless the link is UP (R162), then checked and accepted, or a protocol error (R164). -/
def State.dataArrives (l : LinkId) (kind : ReqKind) (tag : PeerTag) (stream : StreamNo) (addr : InAddr) (len : Nat)
    (data : Option (List Byte)) (s : State) : State :=
  if (s.port l).state = .up then
    match dataCheck (s.port l) tag stream addr len, streamOf? stream.val with
    | none, some st => s.modPort l (LinkPort.accept ⟨l, tag, kind, st, addr, len, data⟩)
    | some c, _ => s.protocolError l c
    | none, none => s.protocolError l .streamZero
  else s

/-- WR (R164). -/
def execWr (l : LinkId) (tag : PeerTag) (stream : StreamNo) (addr : InAddr) (data : List Byte) (s : State) : Answer :=
  .next (s.dataArrives l .wr tag stream addr data.length (some data))

/-- RD (R164). -/
def execRd (l : LinkId) (tag : PeerTag) (stream : StreamNo) (addr : InAddr) (length : BitVec 16) (s : State) : Answer :=
  .next (s.dataArrives l .rd tag stream addr length.toNat none)

/-- RDS (R164). -/
def execRds (l : LinkId) (tag : PeerTag) (stream : StreamNo) (addr : InAddr) (length : BitVec 16) (s : State) : Answer :=
  .next (s.dataArrives l .rds tag stream addr length.toNat none)

/-! ## Control requests -/

/-- An accepted control request spends a credit and adds its tag (R141). -/
def LinkPort.acceptCtl (tag : CtlTag) (p : LinkPort) : LinkPort :=
  { p with ctlCredits := p.ctlCredits - 1, unrepliedCtl := p.unrepliedCtl.set tag true }

/-- A control request arrives on an UP link: the lines of R142 in order. -/
def State.ctlArrives (l : LinkId) (tag : CtlTag) (byte2 op : Byte) (body : List Byte) (s : State) : State :=
  let p := s.port l
  let accepted := s.modPort l (LinkPort.acceptCtl tag)
  if p.ctlCredits = 0 then s.protocolError l .noControlCredit
  else if p.unrepliedCtl[tag] = true then s.protocolError l .duplicateControlTag
  else match CtlOp.ofByte? op with
    | none => accepted.handCtl l ⟨tag, byte2, .badArgument, []⟩
    | some o =>
      if body.length ≠ o.bodyLength then accepted.handCtl l ⟨tag, byte2, .badArgument, []⟩
      else if Config.inbandCapacity ≤ s.engine.inband.length then
        (accepted.handCtl l ⟨tag, byte2, .busy, []⟩).raiseDev .inbandFull
      else accepted.setEngine { s.engine with inband := s.engine.inband ++ [⟨l, tag, byte2, o, body⟩] }

/-- CTL: discarded unless the link is UP (R142, R162). -/
def execCtl (l : LinkId) (tag : CtlTag) (byte2 op : Byte) (body : List Byte) (s : State) : Answer :=
  .next (if (s.port l).state = .up then s.ctlArrives l tag byte2 op body else s)

/-! ## The other messages -/

/-- NOTICE_ACK: returns the notice credit when it is OUTSTANDING; with the credit HELD it is a protocol error (R154). The
credit of an UP link is never ABSENT (R152, log 9). -/
def execNoticeAck (l : LinkId) (s : State) : Answer :=
  .next (if (s.port l).state = .up then
      match (s.port l).noticeCredit with
      | .outstanding => s.modPort l fun p => { p with noticeCredit := .held }
      | .held => s.protocolError l .strayAck
      | .absent => s
    else s)

/-- The port's fields at the entry into UP (R161). -/
def LinkPort.comeUp (p : LinkPort) : LinkPort :=
  { p with
    state := .up
    helloTimer := none
    dataCredits := Config.dataCredits
    unrepliedTags := Vector.replicate 16 false
    ctlCredits := Config.ctlCredits
    unrepliedCtl := Vector.replicate 2 false
    noticeCredit := .held }

/-- HELLO: a TRAINING link enters UP; on a link in another state it is discarded (R161, R162). -/
def execHello (l : LinkId) (s : State) : Answer :=
  .next (if (s.port l).state = .training then (s.modPort l LinkPort.comeUp).raiseLink l .linkUp else s)

/-- LINK_RESET: an UP link is reset by the peer, answers and enters TRAINING through RESETTING in the same event; in
RESETTING it ends the handshake; elsewhere it is discarded (R170, R162). -/
def execLinkReset (l : LinkId) (s : State) : Answer :=
  .next (match (s.port l).state with
    | .up => ((s.leaveUp l).send l .linkReset).enterTraining l
    | .resetting => s.enterTraining l
    | .disabled => s
    | .down => s
    | .training => s)

/-- UNKNOWN_KIND: a protocol error on an UP link, discarded in every other state (R168, R189). -/
def execUnknownKind (l : LinkId) (s : State) : Answer :=
  .next (if (s.port l).state = .up then s.protocolError l .unknownKind else s)

/-! ## The signal -/

/-- SIGNAL_DETECTION: recorded; a DOWN link enters TRAINING (R160, log 17). -/
def execSignalDetection (l : LinkId) (s : State) : Answer :=
  let s1 := s.modPort l fun p => { p with signal := true }
  .next (if (s.port l).state = .down then s1.enterTraining l else s1)

/-- SIGNAL_LOSS: recorded; TRAINING, UP and RESETTING links enter DOWN, an UP one with the reset effects and no LINK_RESET
message (R160). -/
def execSignalLoss (l : LinkId) (s : State) : Answer :=
  let s1 := s.modPort l fun p => { p with signal := false }
  .next (match (s.port l).state with
    | .disabled => s1
    | .down => s1
    | .training => s1.enterDown l
    | .up => (s1.leaveUp l).enterDown l
    | .resetting => s1.enterDown l)

/-! ## The timers -/

/-- HELLO_TIMER_EXPIRY on a TRAINING link: HELLO is sent again and the timer set to 1 ms after the expiry (R161, log 10). -/
def execHelloTimerExpiry (l : LinkId) (s : State) : Answer :=
  .next (match (s.port l).state, (s.port l).helloTimer with
    | .training, some t =>
      let s1 := s.reach t
      (s1.modPort l fun p => { p with helloTimer := some (s1.now + Config.helloPeriod) }).send l .hello
    | _, _ => s)

/-- HANDSHAKE_TIMER_EXPIRY on a RESETTING link: the link enters TRAINING (R170). -/
def execHandshakeTimerExpiry (l : LinkId) (s : State) : Answer :=
  .next (match (s.port l).state, (s.port l).handshakeTimer with
    | .resetting, some t => (s.reach t).enterTraining l
    | _, _ => s)

/-! ## Sending -/

/-- A NOTICE can be sent: the link is UP, the credit HELD, the set not empty (R153). -/
def LinkPort.noticeReady (p : LinkPort) : Bool :=
  decide (p.state = .up) && decide (p.noticeCredit = .held) && decide (p.noticeSet ≠ StreamSet.none)

/-- NOTICE: names every stream of the set, empties it and spends the credit (R153). -/
def execNotice (l : LinkId) (s : State) : Answer :=
  .next (if (s.port l).noticeReady then
      (s.modPort l fun p => { p with noticeSet := StreamSet.none, noticeCredit := .outstanding }).send l
        (.notice (s.port l).noticeSet)
    else s)

/-- The first element that satisfies `p`, and the list without it. -/
def takeFirst {α : Type} (p : α → Bool) : List α → Option (α × List α)
  | [] => none
  | x :: rest =>
    if p x then some (x, rest)
    else match takeFirst p rest with
      | none => none
      | some (y, ys) => some (y, x :: ys)

/-- SEND_DATA_REPLY: the outgoing data reply with this peer tag leaves; a credit returns and the tag is replied (R163,
R166). -/
def execSendDataReply (l : LinkId) (tag : PeerTag) (s : State) : Answer :=
  .next (if (s.port l).state = .up then
      match takeFirst (fun r : DataReply => decide (r.tag = tag)) (s.port l).outData with
      | none => s
      | some (r, rest) =>
        (s.modPort l fun p =>
          { p with
            outData := rest
            dataCredits := p.dataCredits + 1
            unrepliedTags := p.unrepliedTags.set tag false }).send l (.dataReply r)
    else s)

/-- SEND_CTL_REPLY: the outgoing control reply with this control tag leaves; a control credit returns (R144). -/
def execSendCtlReply (l : LinkId) (tag : CtlTag) (s : State) : Answer :=
  .next (if (s.port l).state = .up then
      match takeFirst (fun r : CtlReply => decide (r.tag = tag)) (s.port l).outCtl with
      | none => s
      | some (r, rest) =>
        (s.modPort l fun p =>
          { p with
            outCtl := rest
            ctlCredits := p.ctlCredits + 1
            unrepliedCtl := p.unrepliedCtl.set tag false }).send l (.ctlReply r)
    else s)

end Sys2Proof.Machine
end

