-- ==== Sys2Proof/Machine/Port.lean ====
section
/-! DEFINITION. The management port: resets of the part, writes of registers, reads of registers
(10_management_port_and_events.md, 07 section 7.3, 11_formats.md R194). -/

namespace Sys2Proof.Machine

/-! ## Resets -/

/-- All four links start again, in number order (R174, log 16). -/
def State.restartLinks (wasUp : LinkId → Bool) (s : State) : State :=
  (List.finRange 4).foldl (fun s l => s.restartLink wasUp l) s

/-- The tables and units after power-on reset, with the lines' signals, the clock, the output records and the event queue
kept (R26, R52, R85, R108, R121, R137, R157, R186, log 5, log 15). -/
def State.powerOnTables (s : State) : State :=
  { State.reset with
    ports := s.ports
    sent := s.sent
    fabricSent := s.fabricSent
    now := s.now
    pending := s.pending }

/-- POWER_ON_RESET (R174, R178). -/
def execPowerOnReset (s : State) : Answer := .next (s.powerOnTables.restartLinks fun _ => false)

/-- The tables and units after a device reset: as after power-on reset but generations kept, held tags in the quarantine
and quarantined tags kept (R26, R108, R121, R133, R178). -/
def State.deviceResetTables (s : State) : State :=
  { s.powerOnTables with
    windows := s.windows.map fun w => Window.cleared w.generation
    fabric := { Fabric.initial with tags := Vector.ofFn s.tagAfterDeviceReset } }

/-- DEVICE_RESET: every block at once; UP links first send LINK_RESET (R174, R178). -/
def State.deviceReset (s : State) : State :=
  s.deviceResetTables.restartLinks fun l => decide ((s.port l).state = .up)

/-- DEVICE_RESET (R178). -/
def execDeviceReset (s : State) : Answer := .next s.deviceReset

/-! ## Writes -/

/-- A write to CMD_ISSUE: code in bits 7:0, sequence number in bits 15:8. An empty slot takes the command with a copy of
the staging registers and CMD_STATUS shows BUSY; with a full slot it is an overrun (R129, R130, R192). -/
def State.writeCmdIssue (value : Word) (s : State) : State :=
  match s.engine.slot with
  | some _ => s.raiseDev .cmdOverrun
  | none =>
    (s.setEngine
        { s.engine with
          slot := some ⟨value.extractLsb' 0 8, value.extractLsb' 8 8, s.mgmt.staging⟩ }).setMgmt
      { s.mgmt with status := .busy, seq := value.extractLsb' 8 8 }

/-- CMD_ISSUE (R129, R130). -/
def execCmdIssue (value : Word) (s : State) : Answer := .next (s.writeCmdIssue value)

/-- A write to a link's unbound-arrival set register removes each stream written 1 (R78). -/
def State.removeUnbound (l : LinkId) (value : Word) (s : State) : State :=
  s.modPort l fun p =>
    { p with unboundSet := Vector.ofFn fun st => p.unboundSet[st] && !(value.getLsbD (streamNum st)) }

/-- UNBOUND_SET_REMOVE (R78). -/
def execUnboundSetRemove (l : LinkId) (value : Word) (s : State) : Answer := .next (s.removeUnbound l value)

/-- EVENT_CLEAR (R181). -/
def execEventClear (r : EventReg) (value : Word) (s : State) : Answer := .next (s.setEvents (s.events.clear r value))

/-- EVENT_ENABLE_WRITE (R183). -/
def execEventEnableWrite (r : EventReg) (value : Word) (s : State) : Answer :=
  .next (s.setEvents (s.events.writeEnable r value))

/-- A write to the summary enable register replaces the summary enables (R184). -/
def State.writeSummaryEnable (value : Word) (s : State) : State :=
  s.setEvents { s.events with sumEnable := value.setWidth 20 }

/-- SUMMARY_ENABLE_WRITE (R184). -/
def execSummaryEnableWrite (value : Word) (s : State) : Answer := .next (s.writeSummaryEnable value)

/-- A write to a staging register stores the value and changes that register alone (R128). -/
def State.writeStaging (i : Fin 12) (value : Word) (s : State) : State :=
  s.setMgmt { s.mgmt with staging := s.mgmt.staging.set i value }

/-- What a bus write does at the register it reaches (R175, R176). Read-only registers and unassigned words ignore it; a
register that has a row of its own acts as that row does (log 13). -/
def State.writeRegister (r : Register) (value : Word) (s : State) : State :=
  match r with
  | .cmdArg i => s.writeStaging i value
  | .deviceControl => if value.getLsbD 0 then s.deviceReset else s
  | .cmdIssue => s.writeCmdIssue value
  | .unboundSet l => s.removeUnbound l value
  | .eventLatch r => s.setEvents (s.events.clear r value)
  | .eventEnable r => s.setEvents (s.events.writeEnable r value)
  | .summaryEnable => s.writeSummaryEnable value
  | .identification => s
  | .cmdStatus => s
  | .cmdResult _ => s
  | .linkState _ => s
  | .targetState0 => s
  | .targetState1 => s
  | .tagStatus => s
  | .summary => s
  | .unassigned => s

/-- REGISTER_WRITE (R175, R176). -/
def execRegisterWrite (off : BitVec 12) (width : BusWidth) (value : Word) (s : State) : Answer :=
  .next (s.writeRegister (accessedRegister off width) value)

/-! ## Reads -/

/-- LINK_STATE of a link (R173, R194). -/
def State.linkStateWord (s : State) (l : LinkId) : Word :=
  let p := s.port l
  fieldWord 0 3 p.state.num ||| fieldWord 3 1 p.signal.toNat ||| fieldWord 4 4 p.dataCredits
    ||| fieldWord 8 4 p.ingress.length ||| fieldWord 12 4 (s.busyCount l) ||| fieldWord 16 2 p.ctlCredits
    ||| fieldWord 18 2 p.noticeCredit.num ||| fieldWord 24 4 (ErrorCause.num p.errorCause)

/-- The two words of TARGET_STATE: states and issued counts, quarantined counts (R120, R194). -/
def State.targetStateWord0 (s : State) : Word :=
  fieldWord 0 1 (s.target 0).num ||| fieldWord 1 1 (s.target 1).num ||| fieldWord 2 1 (s.target 2).num
    ||| fieldWord 3 1 (s.target 3).num ||| fieldWord 4 5 (s.issuedCount 0) ||| fieldWord 9 5 (s.issuedCount 1)
    ||| fieldWord 14 5 (s.issuedCount 2) ||| fieldWord 19 5 (s.issuedCount 3)

def State.targetStateWord1 (s : State) : Word :=
  fieldWord 0 5 (s.quarantinedCount 0) ||| fieldWord 5 5 (s.quarantinedCount 1)
    ||| fieldWord 10 5 (s.quarantinedCount 2) ||| fieldWord 15 5 (s.quarantinedCount 3)

/-- The numbers of tags free, held and quarantined (R92). -/
def State.freeTags (s : State) : Nat := s.fabric.tags.countP fun c => decide (c = .free)
def State.grantedTags (s : State) : Nat :=
  s.fabric.tags.countP fun c => match c with | .free => false | .held _ _ => true | .quarantined _ => false
def State.quarantinedTags (s : State) : Nat :=
  s.fabric.tags.countP fun c => match c with | .free => false | .held _ _ => false | .quarantined _ => true

/-- TAG_STATUS (R92, R194). -/
def State.tagStatusWord (s : State) : Word :=
  fieldWord 0 5 s.freeTags ||| fieldWord 8 5 s.grantedTags ||| fieldWord 16 5 s.quarantinedTags

/-- The value a register reads (R176); an unassigned word, DEVICE_CONTROL and CMD_ISSUE read 0. -/
def State.readRegister (s : State) : Register → Word
  | .identification => Config.identification
  | .deviceControl => 0
  | .cmdIssue => 0
  | .cmdStatus => fieldWord 0 2 s.mgmt.status.num ||| fieldWord 8 8 s.mgmt.seq.toNat
  | .cmdArg i => s.mgmt.staging[i]
  | .cmdResult i => s.mgmt.results[i]
  | .linkState l => s.linkStateWord l
  | .targetState0 => s.targetStateWord0
  | .targetState1 => s.targetStateWord1
  | .tagStatus => s.tagStatusWord
  | .unboundSet l => BitVec.ofNat 32 (s.port l).unboundSet.mask
  | .eventLatch .device => s.events.devLatch.setWidth 32
  | .eventLatch (.link l) => (s.events.linkLatch[l]).setWidth 32
  | .eventLatch (.domain d) => (s.events.domLatch[d]).setWidth 32
  | .eventEnable .device => s.events.devEnable.setWidth 32
  | .eventEnable (.link l) => (s.events.linkEnable[l]).setWidth 32
  | .eventEnable (.domain d) => (s.events.domEnable[d]).setWidth 32
  | .summary => s.events.summary.setWidth 32
  | .summaryEnable => s.events.sumEnable.setWidth 32
  | .unassigned => 0

/-- A bus read: a function of the state, which it does not change (R175, log 19). -/
def State.busRead (s : State) (off : BitVec 12) (width : BusWidth) : Word :=
  s.readRegister (accessedRegister off width)

end Sys2Proof.Machine
end

