-- ==== Sys2Proof/Machine/Dispatch.lean ====
section
/-! DEFINITION. One arm for each constructor of Instr: the meaning of each row of spec/opcode_table.json. -/

namespace Sys2Proof.Machine

def exec (i : Instr) (s : State) : Host.Outcome State Fault Refusal :=
  match i with
  | .install => Sys2Proof.Machine.execInstall s
  | .replace => Sys2Proof.Machine.execReplace s
  | .retire => Sys2Proof.Machine.execRetire s
  | .suspend => Sys2Proof.Machine.execSuspend s
  | .resume => Sys2Proof.Machine.execResume s
  | .setBudget => Sys2Proof.Machine.execSetBudget s
  | .readWindow => Sys2Proof.Machine.execReadWindow s
  | .domainOpen => Sys2Proof.Machine.execDomainOpen s
  | .domainSet => Sys2Proof.Machine.execDomainSet s
  | .setFence => Sys2Proof.Machine.execSetFence s
  | .freeze => Sys2Proof.Machine.execFreeze s
  | .thaw => Sys2Proof.Machine.execThaw s
  | .halt => Sys2Proof.Machine.execHalt s
  | .release => Sys2Proof.Machine.execRelease s
  | .purge => Sys2Proof.Machine.execPurge s
  | .readDomain => Sys2Proof.Machine.execReadDomain s
  | .readChain => Sys2Proof.Machine.execReadChain s
  | .bind => Sys2Proof.Machine.execBind s
  | .unbind => Sys2Proof.Machine.execUnbind s
  | .streamSet => Sys2Proof.Machine.execStreamSet s
  | .targetSet => Sys2Proof.Machine.execTargetSet s
  | .setTimeout => Sys2Proof.Machine.execSetTimeout s
  | .linkSet => Sys2Proof.Machine.execLinkSet s
  | .probe => Sys2Proof.Machine.execProbe s
  | .badCommand => Sys2Proof.Machine.execBadCommand s
  | .cmdIssue value => Sys2Proof.Machine.execCmdIssue value s
  | .openWindow => Sys2Proof.Machine.execOpenWindow s
  | .closeWindow => Sys2Proof.Machine.execCloseWindow s
  | .narrow => Sys2Proof.Machine.execNarrow s
  | .status => Sys2Proof.Machine.execStatus s
  | .ctl l tag byte2 op body => Sys2Proof.Machine.execCtl l tag byte2 op body s
  | .wr l tag stream addr data => Sys2Proof.Machine.execWr l tag stream addr data s
  | .rd l tag stream addr length => Sys2Proof.Machine.execRd l tag stream addr length s
  | .rds l tag stream addr length => Sys2Proof.Machine.execRds l tag stream addr length s
  | .noticeAck l => Sys2Proof.Machine.execNoticeAck l s
  | .hello l => Sys2Proof.Machine.execHello l s
  | .linkReset l => Sys2Proof.Machine.execLinkReset l s
  | .unknownKind l => Sys2Proof.Machine.execUnknownKind l s
  | .signalDetection l => Sys2Proof.Machine.execSignalDetection l s
  | .signalLoss l => Sys2Proof.Machine.execSignalLoss l s
  | .helloTimerExpiry l => Sys2Proof.Machine.execHelloTimerExpiry l s
  | .handshakeTimerExpiry l => Sys2Proof.Machine.execHandshakeTimerExpiry l s
  | .examination l => Sys2Proof.Machine.execExamination l s
  | .grant => Sys2Proof.Machine.execGrant s
  | .completion tag st data => Sys2Proof.Machine.execCompletion tag st data s
  | .deadlineExpiry l e => Sys2Proof.Machine.execDeadlineExpiry l e s
  | .notice l => Sys2Proof.Machine.execNotice l s
  | .sendDataReply l tag => Sys2Proof.Machine.execSendDataReply l tag s
  | .sendCtlReply l tag => Sys2Proof.Machine.execSendCtlReply l tag s
  | .powerOnReset => Sys2Proof.Machine.execPowerOnReset s
  | .deviceReset => Sys2Proof.Machine.execDeviceReset s
  | .unboundSetRemove l value => Sys2Proof.Machine.execUnboundSetRemove l value s
  | .eventClear r value => Sys2Proof.Machine.execEventClear r value s
  | .eventEnableWrite r value => Sys2Proof.Machine.execEventEnableWrite r value s
  | .summaryEnableWrite value => Sys2Proof.Machine.execSummaryEnableWrite value s
  | .registerWrite off width value => Sys2Proof.Machine.execRegisterWrite off width value s

end Sys2Proof.Machine
end

