-- ==== Sys2Proof/Machine/OwnWork.lean ====
section
/-! DEFINITION. What the part starts by itself: the own event a step takes when no event waits in the queue, and the
passing of one microsecond when there is none (R88, R93, R123, R153, R161, R166, R170, R119; log 3). -/

namespace Sys2Proof.Machine

/-- The row in which the engine takes a command of a code (R192, R193). -/
def commandRow (code : BitVec 8) : Instr :=
  match code.toNat with
  | 0x01 => .install
  | 0x02 => .replace
  | 0x03 => .retire
  | 0x04 => .suspend
  | 0x05 => .resume
  | 0x06 => .setBudget
  | 0x07 => .readWindow
  | 0x08 => .domainOpen
  | 0x09 => .domainSet
  | 0x0A => .setFence
  | 0x0B => .freeze
  | 0x0C => .thaw
  | 0x0D => .halt
  | 0x0E => .release
  | 0x0F => .purge
  | 0x10 => .readDomain
  | 0x11 => .readChain
  | 0x12 => .bind
  | 0x13 => .unbind
  | 0x14 => .streamSet
  | 0x15 => .targetSet
  | 0x16 => .setTimeout
  | 0x17 => .linkSet
  | 0x18 => .probe
  | _ => .badCommand

/-- The row in which the engine takes a control request. -/
def controlRow : CtlOp → Instr
  | .openWindow => .openWindow
  | .closeWindow => .closeWindow
  | .narrow => .narrow
  | .status => .status

/-- The engine takes work when one of its sources holds work (R123, R124). -/
def Engine.work (e : Engine) : Option Instr :=
  if e.servesMgmt then e.slot.map fun c => commandRow c.code
  else if e.servesInband then e.inband.head?.map fun q => controlRow q.op
  else none

/-- The conditions of an examination hold on a link (R88). -/
def State.canExamine (s : State) (l : LinkId) : Bool :=
  decide ((s.port l).state = .up) && !(s.port l).ingress.isEmpty && (s.freeEntry l).isSome

/-- A grant can be made (R93). -/
def State.canGrant (s : State) : Bool := s.freeTag.isSome && s.nextLink.isSome

/-- A link's next sending: a NOTICE, then the first handed data reply, then the first handed control reply (log 3). -/
def State.linkSending (s : State) (l : LinkId) : Option Instr :=
  let p := s.port l
  if p.noticeReady then some (.notice l)
  else if p.state ≠ .up then none
  else match p.outData with
    | r :: _ => some (.sendDataReply l r.tag)
    | [] =>
      match p.outCtl with
      | r :: _ => some (.sendCtlReply l r.tag)
      | [] => none

/-- A link's timer that is due (R161, R170). -/
def State.linkTimerDue (s : State) (l : LinkId) : Option Instr :=
  match (s.port l).state, (s.port l).helloTimer, (s.port l).handshakeTimer with
  | .training, some t, _ => if t ≤ s.now then some (.helloTimerExpiry l) else none
  | .resetting, _, some t => if t ≤ s.now then some (.handshakeTimerExpiry l) else none
  | _, _, _ => none

/-- An ISSUED entry's deadline has passed (R119). -/
def State.deadlineDue (s : State) (le : LinkId × EntryNo) : Option Instr :=
  match s.entry le.1 le.2 with
  | .issued _ _ t => if t ≤ s.now then some (.deadlineExpiry le.1 le.2) else none
  | .waitTag _ => none
  | .free => none

/-- The own event the part starts when nothing waits in the queue: the engine, examinations, a grant, sendings, due timers,
due deadlines, in this order and by number within each (log 3, DESIGN CHOICE). -/
def State.ownEvent (s : State) : Option Instr :=
  match s.engine.work with
  | some c => some c
  | none =>
    match (List.finRange 4).find? s.canExamine with
    | some l => some (.examination l)
    | none =>
      if s.canGrant then some .grant
      else match (List.finRange 4).findSome? s.linkSending with
        | some c => some c
        | none =>
          match (List.finRange 4).findSome? s.linkTimerDue with
          | some c => some c
          | none => allEntries.findSome? s.deadlineDue

/-- One microsecond passes (log 3, log 4). -/
def State.tick (s : State) : State := s.setNow (s.now + 1)

end Sys2Proof.Machine
end

