-- ==== Sys2Proof/Machine/Step.lean ====
section
/-! DEFINITION. One step: the event at the front of the queue; on an empty queue the part's own work, or one microsecond
passes (log 1, log 3). -/

namespace Sys2Proof.Machine

/-- A step on an empty queue (log 3, DESIGN CHOICE). -/
def idleStep (s : State) : Host.Outcome State Fault Refusal :=
  match s.ownEvent with
  | some c => exec c s
  | none => .next s.tick

/-- The step: the event at the front of the queue is taken, with the rest of the queue left waiting. -/
def step (s : State) : Host.Outcome State Fault Refusal :=
  match s.pending with
  | c :: rest => exec c { s with pending := rest }
  | [] => idleStep s

/-- `s` with the command that a word spells at the front of its queue; no row gives bits, so no word spells one (log 18). -/
def State.withFetchWord (s : State) (nbits w : Nat) : State :=
  match decodeTableWord nbits w with
  | some c => { s with pending := c :: s.pending }
  | none => s

end Sys2Proof.Machine
end

