-- ==== Sys2Proof/Safety.lean ====
section
/-! DEFINITION. What counts as a safe run: the step goes on, and the laws the spec says its tables keep. Each law is a
property of one state; the obligations say which steps keep it. -/

namespace Sys2Proof

open Machine

/-- The step answers a next state. -/
def stepGoesOn (s : State) : Prop := ∃ t, step s = .next t

/-- Every step of the machine keeps the law `inv` in the states that meet `given`. -/
def keptByStep (given inv : State → Prop) : Prop := ∀ s t : State, given s → inv s → step s = .next t → inv t

/-- A FREE slot holds the cleared values of R2 beside its generation, so it has zero references (R2, R8). -/
def freeSlotsCleared (s : State) : Prop :=
  ∀ i : SlotId, (s.window i).state = .free → s.window i = Window.cleared (s.window i).generation

/-- SPECULATIVE stands only with READ, in every window and every self ceiling (R1, R27). -/
def permissionsLegal (s : State) : Prop :=
  (∀ i : SlotId, (s.window i).perms.legal = true) ∧ ∀ d : DomId, (s.domain d).selfCeiling.legal = true

/-- The bounds of one window's budget and alert (R1, R11, R12): a window with no budget has its alert clear; a budget of
which nothing remains has it set. -/
def budgetBounds (w : Window) : Prop :=
  match w.budget with
  | none => w.alert = false
  | some b =>
    0 < b.setValue ∧ b.setValue ≤ Config.budgetMax ∧ b.remaining ≤ b.setValue ∧ (b.remaining = 0 → w.alert = true)

def budgetsBounded (s : State) : Prop := ∀ i : SlotId, budgetBounds (s.window i)

/-- A base, size and target base as R1 and R27 bound and align them. -/
def areaAligned (base : InAddr) (sizeExp : Nat) (targetBase : TgtAddr) : Prop :=
  12 ≤ sizeExp ∧ sizeExp ≤ 40 ∧ 2 ^ sizeExp ∣ base.toNat ∧ 2 ^ sizeExp ∣ targetBase.toNat

/-- Every window and every fence is aligned (R1, R27, R36). -/
def geometryAligned (s : State) : Prop :=
  (∀ i : SlotId, areaAligned (s.window i).base (s.window i).sizeExp (s.window i).targetBase) ∧
  ∀ (d : DomId) (f : Fence), (s.domain d).fence = some f → areaAligned f.base f.sizeExp f.targetBase

/-- A domain that is UNUSED or PURGING has an empty chain and no bound stream (R28, R47). -/
def outOfServiceIsEmpty (s : State) : Prop :=
  ∀ d : DomId, (s.domain d).state = .unused ∨ (s.domain d).state = .purging →
    (s.domain d).chain = [] ∧ ∀ (l : LinkId) (st : DataStream), (s.stream l st).bound ≠ some d

/-- The halt cause is present only in a HALTED or PURGING domain, and no fault count passes 255 (R27, R33, R34). -/
def faultsConsistent (s : State) : Prop :=
  ∀ d : DomId, (s.domain d).faultCount ≤ 255 ∧
    ((s.domain d).haltCause ≠ none → (s.domain d).state = .halted ∨ (s.domain d).state = .purging)

/-- The Domain Table's chain laws (R30, R37, R27): a slot is on its domain's chain exactly when it is LIVE or SUSPENDED,
ranks strictly increase along a chain, MANAGEMENT ranks are 0 to 127 and SELF ranks 128 to 255, the self count counts the
chain's SELF windows within the allowance, the draining count counts the domain's DRAINING windows, an UNUSED domain holds
the values of R28 and a PURGING one has an empty chain. -/
def chainsSound (s : State) : Prop :=
  ∀ d : DomId,
    (∀ i : SlotId, i ∈ (s.domain d).chain ↔
      ((s.window i).state = .live ∨ (s.window i).state = .suspended) ∧ (s.window i).domain = d) ∧
    (s.domain d).chain.Pairwise (fun i j => (s.window i).rank < (s.window j).rank) ∧
    (∀ i ∈ (s.domain d).chain,
      ((s.window i).owner = .management → (s.window i).rank ≤ 127) ∧
      ((s.window i).owner = .self → 128 ≤ (s.window i).rank ∧ (s.window i).rank ≤ 255)) ∧
    (s.domain d).selfCount = (s.selfWindows d).length ∧
    (s.domain d).selfCount ≤ (s.domain d).selfAllowance ∧ (s.domain d).selfAllowance ≤ 16 ∧
    (s.domain d).drainingCount =
      (List.finRange 128).countP (fun i => decide ((s.window i).state = .draining ∧ (s.window i).domain = d)) ∧
    ((s.domain d).state = .unused → s.domain d = Domain.unused) ∧
    ((s.domain d).state = .purging → (s.domain d).chain = [])

/-- Every LIVE or SUSPENDED SELF window lies wholly within its domain's current fence (R36). -/
def selfWindowsFenced (s : State) : Prop :=
  ∀ d : DomId, ∀ i ∈ (s.domain d).chain, (s.window i).owner = .self →
    ∃ f, (s.domain d).fence = some f ∧ f.contains (s.window i).base.toNat (s.window i).sizeExp = true

/-- The reference law (R8): a slot's references equal the busy entries that hold it with its current generation, every busy
entry holds a current handle, and a DRAINING slot still has references. -/
def referencesCounted (s : State) : Prop :=
  (∀ i : SlotId, (s.window i).refs =
    allEntries.countP (fun le => decide ((s.entry le.1 le.2).request?.map (·.window) = some (s.handleOf i)))) ∧
  (∀ (l : LinkId) (e : EntryNo) (r : EntryReq), (s.entry l e).request? = some r →
    (s.window r.window.slot).generation = r.window.generation ∧ (s.window r.window.slot).state ≠ .free) ∧
  (∀ i : SlotId, (s.window i).state = .draining → 0 < (s.window i).refs)

/-- The tag conditions (R92): a tag is held by an entry exactly when that entry is ISSUED under it. -/
def tagsHeldByIssued (s : State) : Prop :=
  (∀ (t : TagNo) (l : LinkId) (e : EntryNo), s.tag t = .held l e → ∃ r dl, s.entry l e = .issued r t dl) ∧
  (∀ (t : TagNo) (l : LinkId) (e : EntryNo) (r : EntryReq) (dl : Nat),
    s.entry l e = .issued r t dl → s.tag t = .held l e)

/-- A link's waiting list holds exactly its WAIT_TAG entries, each once (R87). -/
def waitingListsSound (s : State) : Prop :=
  ∀ l : LinkId, (s.waitList l).Nodup ∧ ∀ e : EntryNo, e ∈ s.waitList l ↔ (s.entry l e).isWaiting = true

/-- An entry in WAIT_TAG always has an ONLINE target (R90, R102). -/
def waitersTargetOnline (s : State) : Prop :=
  ∀ (l : LinkId) (e : EntryNo) (r : EntryReq), s.entry l e = .waitTag r → s.target r.target = .online

/-- What a link that is not UP holds (R105, R156, R159, R126): no queued request, reply, credit or tag, every entry FREE, no
control request in the in-band queue. -/
def linkQuiet (s : State) (l : LinkId) : Prop :=
  (s.port l).ingress = [] ∧ (s.port l).outData = [] ∧ (s.port l).outCtl = [] ∧ (s.port l).dataCredits = 0 ∧
  (s.port l).unrepliedTags = Vector.replicate 16 false ∧ (s.port l).ctlCredits = 0 ∧
  (s.port l).unrepliedCtl = Vector.replicate 2 false ∧ (s.port l).noticeCredit = .absent ∧
  (∀ e : EntryNo, s.entry l e = .free) ∧ s.waitList l = [] ∧ ∀ q ∈ s.engine.inband, q.link ≠ l

def linksQuietUnlessUp (s : State) : Prop := ∀ l : LinkId, (s.port l).state ≠ .up → linkQuiet s l

/-- The HELLO timer is present exactly in TRAINING and the handshake timer exactly in RESETTING (R158); a DOWN link has its
signal absent and a TRAINING, UP or RESETTING link has it present (R160). -/
def timersAndSignals (s : State) : Prop :=
  ∀ l : LinkId,
    ((s.port l).helloTimer.isSome = true ↔ (s.port l).state = .training) ∧
    ((s.port l).handshakeTimer.isSome = true ↔ (s.port l).state = .resetting) ∧
    ((s.port l).state = .down → (s.port l).signal = false) ∧
    ((s.port l).state = .training ∨ (s.port l).state = .up ∨ (s.port l).state = .resetting → (s.port l).signal = true)

/-- The peer tags of a link's data requests accepted and not yet answered: queued, in the tracker, or with a reply handed
and not sent (R163). -/
def outstandingTags (s : State) (l : LinkId) : List PeerTag :=
  (s.port l).ingress.map (·.tag) ++ (s.port l).outData.map (·.tag) ++
    (List.finRange 8).filterMap (fun e => (s.entry l e).request?.map (·.tag))

/-- The data credit law (R163): while a link is UP the peer data credits plus the requests not yet replied equal 12, and the
unreplied peer tags are exactly theirs, each once. -/
def dataCreditLaw (s : State) : Prop :=
  ∀ l : LinkId, (s.port l).state = .up →
    (outstandingTags s l).Nodup ∧
    (∀ t : PeerTag, (s.port l).unrepliedTags[t] = true ↔ t ∈ outstandingTags s l) ∧
    (s.port l).dataCredits + (outstandingTags s l).length = 12 ∧
    (∀ q ∈ (s.port l).ingress, q.link = l)

/-- The control tags of a link's control requests accepted and not yet answered (R141). -/
def outstandingCtl (s : State) (l : LinkId) : List CtlTag :=
  (s.engine.inband.filter fun q => decide (q.link = l)).map (·.tag) ++ (s.port l).outCtl.map (·.tag)

/-- The control credit law (R141), and at most six entries in the in-band queue (R122). -/
def ctlCreditLaw (s : State) : Prop :=
  s.engine.inband.length ≤ 6 ∧
  ∀ l : LinkId, (s.port l).state = .up →
    (outstandingCtl s l).Nodup ∧
    (∀ t : CtlTag, (s.port l).unrepliedCtl[t] = true ↔ t ∈ outstandingCtl s l) ∧
    (s.port l).ctlCredits + (outstandingCtl s l).length = 2 ∧
    (s.port l).noticeCredit ≠ .absent

/-- CMD_STATUS shows BUSY exactly while the management slot is full, with the sequence number of the command in it (R132),
and the completion timeout setting stays in its range (R118). -/
def statusMatchesSlot (s : State) : Prop :=
  (s.mgmt.status = .busy ↔ s.engine.slot.isSome = true) ∧
  (∀ c, s.engine.slot = some c → s.mgmt.seq = c.seq) ∧
  Config.timeoutMin ≤ s.fabric.timeout ∧ s.fabric.timeout ≤ Config.timeoutMax

end Sys2Proof
end

