-- ==== Sys2Proof/Certificates/Slice0/Obligations.lean ====
section
/-! DEFINITION. The statements about the part, for the provers. The words they share come first (`Spec`), each written
from a rule of spec/; then the statements, chapter by chapter. OBLIGATIONS.json says of each which rules it rests on. -/

open Sys2Proof Sys2Proof.Machine

namespace Sys2Proof.Spec

/-! ## Words shared by the statements -/

/-- The engine's next taking is the command `c`, of code `k`, in the management slot (R124). -/
abbrev takes (k : Nat) (c : Command) (s : State) : Prop :=
  s.engine.slot = some c ∧ c.code.toNat = k ∧ (s.engine.inband = [] ∨ s.engine.lastServed = .inband)

/-- The engine's next taking is the request `q`, of operation `op`, at the head of the in-band queue (R124). -/
abbrev takesControl (op : CtlOp) (q : CtlRequest) (rest : List CtlRequest) (s : State) : Prop :=
  s.engine.inband = q :: rest ∧ q.op = op ∧ (s.engine.slot = none ∨ s.engine.lastServed = .management)

/-- The twelve result registers: the result code, then the items, then 0 (R131, R192). -/
def results (code : ResultCode) (items : List Word) : Vector Word 12 :=
  Vector.ofFn fun i => if i.val = 0 then BitVec.ofNat 32 code.num else items.getD (i.val - 1) 0

/-- What the taking of a command does beside the command's own effect, which stands in `t` (R131). -/
def commandDone (c : Command) (code : ResultCode) (items : List Word) (t : State) : State :=
  { t with
    mgmt := { t.mgmt with status := .done, seq := c.seq, results := results code items }
    engine := { t.engine with slot := none, lastServed := .management }
    events := t.events.raiseDev .cmdDone }

/-- The command is refused with `code` and changes nothing else (R134). -/
def refused (row : Instr) (c : Command) (code : ResultCode) (s : State) : Prop :=
  exec row s = .next (commandDone c code [] s)

/-- What the taking of a control request does beside the request's own effect, which stands in `t` (R127). -/
def controlDone (q : CtlRequest) (rest : List CtlRequest) (code : ResultCode) (body : List Byte) (t : State) : State :=
  { t with
    engine := { t.engine with inband := rest, lastServed := .inband }
    ports := t.ports.set q.link
      { t.ports[q.link] with outCtl := (t.ports[q.link]).outCtl ++ [⟨q.tag, q.byte2, code, body⟩] } }

/-- The control request is refused with `code` and changes nothing else (R134). -/
def controlRefused (row : Instr) (q : CtlRequest) (rest : List CtlRequest) (code : ResultCode) (s : State) : Prop :=
  exec row s = .next (controlDone q rest code [] s)

/-- Slot `i` is the lowest-numbered FREE slot (R5). -/
abbrev lowestFree (s : State) (i : SlotId) : Prop :=
  (s.windows[i]).state = .free ∧ ∀ j : SlotId, j < i → (s.windows[j]).state ≠ .free

/-- No slot is FREE (R5). -/
abbrev noneFree (s : State) : Prop := ∀ i : SlotId, (s.windows[i]).state ≠ .free

/-- A domain state in which windows may be installed and streams bound (R29). -/
abbrev inService (st : DomainState) : Prop := st = .active ∨ st = .frozen ∨ st = .halted

/-- A size exponent and a base in range and aligned (R14, R41, R146). -/
abbrev areaFits (n base : Nat) : Prop := 12 ≤ n ∧ n ≤ 40 ∧ base < 2 ^ 48 ∧ base % 2 ^ n = 0

/-- A whole geometry in range and aligned (R14, R16, R41). -/
abbrev geometryFits (n base targetBase : Nat) : Prop := areaFits n base ∧ targetBase % 2 ^ n = 0

/-- A permission set that holds SPECULATIVE only with READ (R1). -/
abbrev permsFit (p : Perms) : Prop := p.speculative = true → p.read = true

/-- A budget that is absent or 1 to 2^40 (R14). -/
abbrev budgetFits (b : Option Nat) : Prop := ∀ v ∈ b, 0 < v ∧ v ≤ 2 ^ 40

/-- A range of `2 ^ n` bytes from `base` lies wholly within a fence (R36). -/
abbrev insideFence (f : Fence) (base n : Nat) : Prop :=
  f.base.toNat ≤ base ∧ base + 2 ^ n ≤ f.base.toNat + 2 ^ f.sizeExp

/-- A handle in a word: slot in bits 15:0, generation in bits 23:16 (R187). -/
def handleWord (i : SlotId) (g : BitVec 8) : Word := 0#8 ++ g ++ BitVec.ofNat 16 i.val

/-- A 64-bit number in two words, the low word first (R187). -/
def twoWords (x : BitVec 64) : List Word := [x.extractLsb' 0 32, x.extractLsb' 32 32]

/-- The permission set as three bits: READ in bit 0, WRITE in bit 1, SPECULATIVE in bit 2 (R187). -/
def permBits (p : Perms) : BitVec 3 := BitVec.ofBool p.speculative ++ BitVec.ofBool p.write ++ BitVec.ofBool p.read

/-- The ports after a notice is pended for domain `d` on every link but `skip` (R38, R151). -/
def pended (d : DomId) (skip : Option LinkId) (s : State) : Vector LinkPort 4 :=
  Vector.ofFn fun l =>
    if skip = some l then s.ports[l]
    else { s.ports[l] with
      noticeSet := Vector.ofFn fun st => (s.ports[l]).noticeSet[st] || decide (((s.bindings[l])[st]).bound = some d) }

/-- The window `w` leaves its chain: FREE and cleared without references, DRAINING with them (R7). -/
def removed (w : Window) : Window := if w.refs = 0 then Window.cleared w.generation else { w with state := .draining }

/-- The result of a removal (R19). -/
def removalCode (w : Window) : ResultCode := if w.refs = 0 then .ok else .pending

/-- What a removal of window `w` does to the counts of its domain, whose chain becomes `chain` (R7). -/
def chainLeft (x : Domain) (w : Window) (chain : List SlotId) : Domain :=
  { x with
    chain := chain
    selfCount := if w.owner = .self then x.selfCount - 1 else x.selfCount
    drainingCount := if w.refs = 0 then x.drainingCount else x.drainingCount + 1 }

/-- A reply to a data request is handed to the port of link `l` (R166). -/
def handed (l : LinkId) (r : DataReply) (t : State) : State :=
  { t with ports := t.ports.set l { t.ports[l] with outData := (t.ports[l]).outData ++ [r] } }

/-- A message of these bytes leaves on link `l`. -/
def sentOn (l : LinkId) (m : List Byte) (t : State) : State := { t with sent := t.sent ++ [(l, m)] }

/-- The part's HELLO: 12 data credits and 2 control credits (R161, R188). -/
def helloBytes : List Byte := [0x06, 0, 0, 0, 12, 2, 0, 0]

/-- The part's LINK_RESET (R188). -/
def linkResetBytes : List Byte := [0x07, 0, 0, 0]

/-- The link enters TRAINING: HELLO sent, the HELLO timer one millisecond on (R161). -/
def trains (l : LinkId) (t : State) : State :=
  sentOn l helloBytes
    { t with
      ports := t.ports.set l
        { t.ports[l] with state := .training, helloTimer := some (t.now + 1000), handshakeTimer := none } }

/-- The link enters DOWN, and TRAINING in the same event if its signal is present (R160). -/
def goesDown (l : LinkId) (t : State) : State :=
  if (t.ports[l]).signal = true then trains l t
  else { t with ports := t.ports.set l { t.ports[l] with state := .down, helloTimer := none, handshakeTimer := none } }

/-- The link enters DISABLED with its timers withdrawn (R172). -/
def isDisabled (l : LinkId) (t : State) : State :=
  { t with ports := t.ports.set l { t.ports[l] with state := .disabled, helloTimer := none, handshakeTimer := none } }

/-- The part-initiated reset of an UP link: the reset effects, LINK_RESET sent, RESETTING for 10 ms at most (R170). -/
def resets (l : LinkId) (s : State) : State :=
  let t := sentOn l linkResetBytes (s.leaveUp l)
  { t with
    ports := t.ports.set l { t.ports[l] with state := .resetting, handshakeTimer := some (t.now + 10000) } }

/-- A protocol error of cause `e` on an UP link (R168). -/
def violates (l : LinkId) (e : ErrorCause) (s : State) : State :=
  resets l
    { s with
      ports := s.ports.set l { s.ports[l] with errorCause := some e }
      events := s.events.raiseLink l .protocol }

/-- Entry `e` of link `l` is its lowest-numbered FREE entry (R89). -/
abbrev lowestFreeEntry (s : State) (l : LinkId) (e : EntryNo) : Prop :=
  (s.entries[l])[e] = .free ∧ ∀ j : EntryNo, j < e → (s.entries[l])[j] ≠ .free

/-- Window record `w` covers the input byte `a` (R59). -/
abbrev coversByte (w : Window) (a : InAddr) : Prop := w.base.toNat ≤ a.toNat ∧ a.toNat ≤ w.base.toNat + 2 ^ w.sizeExp - 1

/-- The state after the head of the ingress queue of link `l` has left it (R89). -/
def popped (l : LinkId) (rest : List Request) (s : State) : State :=
  { s with ports := s.ports.set l { s.ports[l] with ingress := rest } }

/-- References dropped one after another, each as R9 gives. -/
def dropAll (hs : List Handle) (s : State) : State := hs.foldl (fun t h => t.dropRef h) s

/-- The busy entries of the part that satisfy `p`, in order of link and number. -/
def entriesWith (s : State) (p : LinkId → EntryNo → Entry → Bool) : List (LinkId × EntryNo) :=
  allEntries.filter fun le => p le.1 le.2 ((s.entries[le.1])[le.2])

/-- The requests in those entries. -/
def requestsOf (s : State) (les : List (LinkId × EntryNo)) : List EntryReq :=
  les.filterMap fun le => ((s.entries[le.1])[le.2]).request?

/-- A busy entry of state `st` whose target is `t`. -/
def waitingFor (t : TargetId) : Entry → Bool
  | .waitTag r => decide (r.target = t)
  | .free => false
  | .issued _ _ _ => false

def issuedTo (t : TargetId) : Entry → Bool
  | .issued r _ _ => decide (r.target = t)
  | .free => false
  | .waitTag _ => false

/-- The ports after the entries `les` have ended with REFUSED TARGET_ERROR (R102, R103). -/
def targetErrors (s : State) (les : List (LinkId × EntryNo)) : Vector LinkPort 4 :=
  Vector.ofFn fun l =>
    { s.ports[l] with
      outData := (s.ports[l]).outData ++
        (requestsOf s (les.filter fun le => decide (le.1 = l))).map fun r => ⟨r.tag, r.stream, .refused .targetError⟩ }

/-- The entries after those of `les` have become FREE. -/
def freed (s : State) (les : List (LinkId × EntryNo)) : Vector (Vector Entry 8) 4 :=
  Vector.ofFn fun l => Vector.ofFn fun e => if (l, e) ∈ les then .free else (s.entries[l])[e]

/-- The waiting lists after the entries `les` have left them. -/
def stoppedWaiting (s : State) (les : List (LinkId × EntryNo)) : Vector (List EntryNo) 4 :=
  Vector.ofFn fun l => (s.waiting[l]).filter fun e => decide ((l, e) ∉ les)

/-- The rows in which the engine takes a command, with their codes (R192). -/
def commandRows : List (Instr × Nat) :=
  [(.install, 0x01), (.replace, 0x02), (.retire, 0x03), (.suspend, 0x04), (.resume, 0x05), (.setBudget, 0x06),
    (.readWindow, 0x07), (.domainOpen, 0x08), (.domainSet, 0x09), (.setFence, 0x0A), (.freeze, 0x0B), (.thaw, 0x0C)] ++
  [(.halt, 0x0D), (.release, 0x0E), (.purge, 0x0F), (.readDomain, 0x10), (.readChain, 0x11), (.bind, 0x12),
    (.unbind, 0x13), (.streamSet, 0x14), (.targetSet, 0x15), (.setTimeout, 0x16), (.linkSet, 0x17), (.probe, 0x18)]

/-- The rows in which the engine takes a control request. -/
def controlRows : List Instr := [.openWindow, .closeWindow, .narrow, .status]

/-- The same rows with the operations they take. -/
def controlOps : List (Instr × CtlOp) :=
  [(.openWindow, .openWindow), (.closeWindow, .closeWindow), (.narrow, .narrow), (.status, .status)]

/-- The conditions hold on which the part starts the event `c` by itself: a taking at the engine (R123, R124), an
examination (R88), a grant (R93), a NOTICE (R153), the sending of a reply (R166, R144), a timer that is due (R161, R170), a
deadline that has passed (R119). -/
def enabled (c : Instr) (s : State) : Prop :=
  (∃ rk ∈ commandRows, c = rk.1 ∧ ∃ x, takes rk.2 x s) ∨
  (c = .badCommand ∧ ∃ x k, takes k x s ∧ (k = 0 ∨ 0x18 < k)) ∨
  (∃ ro ∈ controlOps, c = ro.1 ∧ ∃ q rest, takesControl ro.2 q rest s) ∨
  (∃ l : LinkId, c = .examination l ∧ (s.ports[l]).state = .up ∧ (s.ports[l]).ingress ≠ [] ∧
    ∃ e : EntryNo, (s.entries[l])[e] = .free) ∨
  (c = .grant ∧ (∃ g : TagNo, s.fabric.tags[g] = .free) ∧ ∃ l : LinkId, s.waiting[l] ≠ []) ∨
  (∃ l : LinkId, c = .notice l ∧ (s.ports[l]).state = .up ∧ (s.ports[l]).noticeCredit = .held ∧
    ∃ st : DataStream, (s.ports[l]).noticeSet[st] = true) ∨
  (∃ l : LinkId, (s.ports[l]).state = .up ∧ ∃ r ∈ (s.ports[l]).outData, c = .sendDataReply l r.tag) ∨
  (∃ l : LinkId, (s.ports[l]).state = .up ∧ ∃ r ∈ (s.ports[l]).outCtl, c = .sendCtlReply l r.tag) ∨
  (∃ l : LinkId, c = .helloTimerExpiry l ∧ (s.ports[l]).state = .training ∧
    ∃ t : Nat, (s.ports[l]).helloTimer = some t ∧ t ≤ s.now) ∨
  (∃ l : LinkId, c = .handshakeTimerExpiry l ∧ (s.ports[l]).state = .resetting ∧
    ∃ t : Nat, (s.ports[l]).handshakeTimer = some t ∧ t ≤ s.now) ∨
  (∃ (l : LinkId) (e : EntryNo), c = .deadlineExpiry l e ∧
    ∃ (r : EntryReq) (g : TagNo) (t : Nat), (s.entries[l])[e] = .issued r g t ∧ t ≤ s.now)

end Sys2Proof.Spec

open Sys2Proof.Spec

/-! ## The queue and the steps -/

/-- A step takes the command at the front of the queue and runs it with the rest of the queue waiting. -/
def Obligations.StepRunsFrontCommand : Prop :=
  ∀ (s : State) (c : Instr) (rest : List Instr),
    s.pending = c :: rest → step s = exec c { s with pending := rest }

/-- With nothing queued, the step is an event the part starts by itself, whose conditions hold; exactly when no such event
has its conditions met, a microsecond passes instead. Which of several comes first is the model's choice, and so is the
passing of a microsecond (log 3, log 4). -/
def Obligations.EmptyQueueStepsOwnWork : Prop :=
  ∀ s : State, s.pending = [] →
    (∀ c, s.ownEvent = some c → enabled c s ∧ step s = exec c s) ∧
    (s.ownEvent = none ↔ ∀ c, ¬enabled c s) ∧
    (s.ownEvent = none → step s = .next { s with now := s.now + 1 })

/-- Nothing stops the part: every step answers a next state. -/
def Obligations.EveryStepGoesOn : Prop := ∀ s : State, stepGoesOn s

/-! ## Reset -/

/-- The state after power-on reset: the values R26, R52, R85, R108, R121, R137, R157, R174 and R186 give. The absent
signal, the clock at 0 and the empty records are the model's choice (log 4, log 5, log 6). -/
def Obligations.ResetStateValues : Prop :=
  (∀ i : SlotId, State.reset.windows[i] = Window.cleared 0) ∧
  (∀ d : DomId, State.reset.domains[d] = Domain.unused) ∧
  (∀ (l : LinkId) (st : DataStream), (State.reset.bindings[l])[st] = ⟨false, .refuse, none⟩) ∧
  (∀ l : LinkId, State.reset.ports[l] = LinkPort.initial false ∧ State.reset.waiting[l] = []) ∧
  (∀ (l : LinkId) (e : EntryNo), (State.reset.entries[l])[e] = .free) ∧
  (∀ t : TagNo, State.reset.fabric.tags[t] = .free) ∧
  (∀ t : TargetId, State.reset.fabric.targets[t] = .offline) ∧
  State.reset.fabric.lastGranted = 3 ∧ State.reset.fabric.timeout = 1000 ∧
  State.reset.engine = ⟨none, [], .inband⟩ ∧
  State.reset.mgmt.status = .idle ∧ State.reset.mgmt.seq = 0 ∧
  (∀ i : Fin 12, State.reset.mgmt.staging[i] = 0 ∧ State.reset.mgmt.results[i] = 0) ∧
  State.reset.events.devLatch = 0 ∧ State.reset.events.devEnable = 0 ∧ State.reset.events.sumEnable = 0 ∧
  (∀ l : LinkId, State.reset.events.linkLatch[l] = 0 ∧ State.reset.events.linkEnable[l] = 0) ∧
  (∀ d : DomId, State.reset.events.domLatch[d] = 0 ∧ State.reset.events.domEnable[d] = 0) ∧
  State.reset.events.interrupt = false ∧
  State.reset.pending = [] ∧ State.reset.sent = [] ∧ State.reset.fabricSent = [] ∧ State.reset.now = 0

/-- Every law of Safety.lean holds right after reset. -/
def Obligations.LawsHoldAtReset : Prop :=
  freeSlotsCleared State.reset ∧ permissionsLegal State.reset ∧ budgetsBounded State.reset ∧
  geometryAligned State.reset ∧ outOfServiceIsEmpty State.reset ∧ faultsConsistent State.reset ∧
  chainsSound State.reset ∧ selfWindowsFenced State.reset ∧ referencesCounted State.reset ∧
  tagsHeldByIssued State.reset ∧ waitingListsSound State.reset ∧ waitersTargetOnline State.reset ∧
  linksQuietUnlessUp State.reset ∧ timersAndSignals State.reset ∧ dataCreditLaw State.reset ∧
  ctlCreditLaw State.reset ∧ statusMatchesSlot State.reset

/-- Power-on reset puts every block in its reset state; each link with its signal present trains at once. That the queue,
the clock, the records of what was sent and the signals stay is the model's choice (log 5, log 15), and so is the order of
the messages of different links in the record (log 16). -/
def Obligations.PowerOnResetClearsAll : Prop :=
  ∀ s : State, exec .powerOnReset s = .next
    { State.reset with
      ports := Vector.ofFn fun l =>
        if (s.ports[l]).signal = true then
          { LinkPort.initial true with state := .training, helloTimer := some (s.now + 1000) }
        else LinkPort.initial false
      sent := s.sent ++ (List.finRange 4).flatMap fun l =>
        if (s.ports[l]).signal = true then [(l, helloBytes)] else []
      fabricSent := s.fabricSent
      now := s.now
      pending := s.pending }

/-- Device reset: as power-on reset, but generations are kept, tags held by ISSUED entries pass to the quarantine against
their entries' targets, quarantined tags stay, and a link that was UP first sends LINK_RESET. That the queue, the clock, the
records of what was sent and the signals stay is the model's choice (log 5, log 15), and so is the order of the messages of
different links in the record (log 16). -/
def Obligations.DeviceResetKeepsGenerationsAndQuarantine : Prop :=
  ∀ s : State, tagsHeldByIssued s → ∃ t : State, exec .deviceReset s = .next t ∧
    (∀ i : SlotId, t.windows[i] = Window.cleared (s.windows[i]).generation) ∧
    (∀ g : TagNo, s.fabric.tags[g] = .free → t.fabric.tags[g] = .free) ∧
    (∀ (g : TagNo) (x : TargetId), s.fabric.tags[g] = .quarantined x → t.fabric.tags[g] = .quarantined x) ∧
    (∀ (g : TagNo) (l : LinkId) (e : EntryNo) (r : EntryReq) (dl : Nat),
      (s.entries[l])[e] = .issued r g dl → t.fabric.tags[g] = .quarantined r.target) ∧
    t.fabric.lastGranted = 3 ∧ t.fabric.timeout = 1000 ∧ (∀ x : TargetId, t.fabric.targets[x] = .offline) ∧
    t.domains = State.reset.domains ∧ t.bindings = State.reset.bindings ∧ t.entries = State.reset.entries ∧
    t.waiting = State.reset.waiting ∧ t.engine = State.reset.engine ∧ t.mgmt = State.reset.mgmt ∧
    t.events = State.reset.events ∧
    (∀ l : LinkId, t.ports[l] =
      if (s.ports[l]).signal = true then
        { LinkPort.initial true with state := .training, helloTimer := some (s.now + 1000) }
      else LinkPort.initial false) ∧
    t.sent = s.sent ++ (List.finRange 4).flatMap (fun l =>
      (if (s.ports[l]).state = .up then [(l, linkResetBytes)] else []) ++
        if (s.ports[l]).signal = true then [(l, helloBytes)] else []) ∧
    t.fabricSent = s.fabricSent ∧ t.now = s.now ∧ t.pending = s.pending

/-! ## Management port and events -/

/-- A write to CMD_ISSUE fills an empty slot with code, sequence number and a copy of the staging registers and shows BUSY;
with the slot full it only sets CMD_OVERRUN. -/
def Obligations.CmdIssueFillsSlotOrOverruns : Prop :=
  ∀ (s : State) (v : Word),
    (s.engine.slot = none → exec (.cmdIssue v) s = .next
      { s with
        engine := { s.engine with slot := some ⟨v.extractLsb' 0 8, v.extractLsb' 8 8, s.mgmt.staging⟩ }
        mgmt := { s.mgmt with status := .busy, seq := v.extractLsb' 8 8 } }) ∧
    (s.engine.slot ≠ none → exec (.cmdIssue v) s = .next { s with events := s.events.raiseDev .cmdOverrun })

/-- What a bus write does: a staging register is stored; a write to DEVICE_CONTROL is a device reset exactly with bit 0 set;
the registers with a row of their own act as that row; a narrow or unaligned write, and a write to a read-only register or
an unassigned word, changes nothing. That a register with a row of its own acts as the row is log 13. -/
def Obligations.RegisterWriteActsByGroup : Prop :=
  ∀ (s : State) (off : BitVec 12) (v : Word),
    exec (.registerWrite off .byte v) s = .next s ∧ exec (.registerWrite off .half v) s = .next s ∧
    (off.toNat % 4 ≠ 0 → exec (.registerWrite off .word v) s = .next s) ∧
    (∀ i : Fin 12, off.toNat = 0x040 + 4 * i.val → exec (.registerWrite off .word v) s = .next
      { s with mgmt := { s.mgmt with staging := s.mgmt.staging.set i v } }) ∧
    (off.toNat = 0x004 → exec (.registerWrite off .word v) s =
      if v.getLsbD 0 = true then exec .deviceReset s else .next s) ∧
    (off.toNat = 0x010 → exec (.registerWrite off .word v) s = exec (.cmdIssue v) s) ∧
    (∀ l : LinkId, off.toNat = 0x140 + 4 * l.val →
      exec (.registerWrite off .word v) s = exec (.unboundSetRemove l v) s) ∧
    (off.toNat = 0x200 → exec (.registerWrite off .word v) s = exec (.eventClear .device v) s) ∧
    (off.toNat = 0x204 → exec (.registerWrite off .word v) s = exec (.eventEnableWrite .device v) s) ∧
    (∀ l : LinkId, off.toNat = 0x210 + 4 * l.val →
      exec (.registerWrite off .word v) s = exec (.eventClear (.link l) v) s) ∧
    (∀ l : LinkId, off.toNat = 0x220 + 4 * l.val →
      exec (.registerWrite off .word v) s = exec (.eventEnableWrite (.link l) v) s) ∧
    (∀ d : DomId, off.toNat = 0x240 + 4 * d.val →
      exec (.registerWrite off .word v) s = exec (.eventClear (.domain d) v) s) ∧
    (∀ d : DomId, off.toNat = 0x280 + 4 * d.val →
      exec (.registerWrite off .word v) s = exec (.eventEnableWrite (.domain d) v) s) ∧
    (off.toNat = 0x2C4 → exec (.registerWrite off .word v) s = exec (.summaryEnableWrite v) s) ∧
    (off.toNat < 0x004 ∨ (0x008 ≤ off.toNat ∧ off.toNat < 0x010) ∨ (0x014 ≤ off.toNat ∧ off.toNat < 0x040) ∨
        (0x070 ≤ off.toNat ∧ off.toNat < 0x140) ∨ (0x150 ≤ off.toNat ∧ off.toNat < 0x200) ∨
        (0x208 ≤ off.toNat ∧ off.toNat < 0x210) ∨ (0x230 ≤ off.toNat ∧ off.toNat < 0x240) ∨ off.toNat = 0x2C0 ∨
        0x2C8 ≤ off.toNat →
      exec (.registerWrite off .word v) s = .next s)

/-- What a bus read returns, bit by bit of every register, and 0 for a narrow or unaligned access and for an unassigned
word; and that the three counts of TAG_STATUS sum to 24. -/
def Obligations.RegisterReadsShowState : Prop :=
  ∀ s : State,
    (∀ off : BitVec 12, s.busRead off .byte = 0 ∧ s.busRead off .half = 0 ∧
      (off.toNat % 4 ≠ 0 → s.busRead off .word = 0) ∧
      ((0x008 ≤ off.toNat ∧ off.toNat < 0x010) ∨ (0x018 ≤ off.toNat ∧ off.toNat < 0x040) ∨
          (0x070 ≤ off.toNat ∧ off.toNat < 0x080) ∨ (0x0B0 ≤ off.toNat ∧ off.toNat < 0x100) ∨
          (0x118 ≤ off.toNat ∧ off.toNat < 0x120) ∨ (0x124 ≤ off.toNat ∧ off.toNat < 0x140) ∨
          (0x150 ≤ off.toNat ∧ off.toNat < 0x200) ∨ (0x208 ≤ off.toNat ∧ off.toNat < 0x210) ∨
          (0x230 ≤ off.toNat ∧ off.toNat < 0x240) ∨ 0x2C8 ≤ off.toNat →
        s.busRead off .word = 0)) ∧
    s.busRead 0x000 .word = 0x15D32416 ∧ s.busRead 0x004 .word = 0 ∧ s.busRead 0x010 .word = 0 ∧
    s.busRead 0x014 .word = 0#16 ++ s.mgmt.seq ++ 0#6 ++ BitVec.ofNat 2 s.mgmt.status.num ∧
    (∀ i : Fin 12, s.busRead (BitVec.ofNat 12 (0x040 + 4 * i.val)) .word = s.mgmt.staging[i] ∧
      s.busRead (BitVec.ofNat 12 (0x080 + 4 * i.val)) .word = s.mgmt.results[i]) ∧
    (∀ l : LinkId,
      s.busRead (BitVec.ofNat 12 (0x100 + 4 * l.val)) .word =
        0#4 ++ BitVec.ofNat 4 (ErrorCause.num (s.ports[l]).errorCause) ++ 0#4
          ++ BitVec.ofNat 2 (s.ports[l]).noticeCredit.num ++ BitVec.ofNat 2 (s.ports[l]).ctlCredits
          ++ BitVec.ofNat 4 ((List.finRange 8).countP fun e => decide ((s.entries[l])[e] ≠ .free))
          ++ BitVec.ofNat 4 (s.ports[l]).ingress.length ++ BitVec.ofNat 4 (s.ports[l]).dataCredits
          ++ BitVec.ofBool (s.ports[l]).signal ++ BitVec.ofNat 3 (s.ports[l]).state.num ∧
      (∀ st : DataStream, (s.busRead (BitVec.ofNat 12 (0x140 + 4 * l.val)) .word).getLsbD (st.val + 1) =
        (s.ports[l]).unboundSet[st]) ∧
      (∀ k : Nat, k = 0 ∨ 16 ≤ k → (s.busRead (BitVec.ofNat 12 (0x140 + 4 * l.val)) .word).getLsbD k = false) ∧
      s.busRead (BitVec.ofNat 12 (0x210 + 4 * l.val)) .word = 0#28 ++ s.events.linkLatch[l] ∧
      s.busRead (BitVec.ofNat 12 (0x220 + 4 * l.val)) .word = 0#28 ++ s.events.linkEnable[l]) ∧
    (∀ x : TargetId,
      (s.busRead 0x110 .word).getLsbD x.val = decide (s.fabric.targets[x] = .online) ∧
      (s.busRead 0x110 .word).extractLsb' (4 + 5 * x.val) 5 =
        BitVec.ofNat 5 (entriesWith s fun _ _ y => issuedTo x y).length ∧
      (s.busRead 0x114 .word).extractLsb' (5 * x.val) 5 =
        BitVec.ofNat 5 ((List.finRange 24).countP fun g => decide (s.fabric.tags[g] = .quarantined x))) ∧
    (s.busRead 0x110 .word).extractLsb' 24 8 = 0 ∧ (s.busRead 0x114 .word).extractLsb' 20 12 = 0 ∧
    s.busRead 0x120 .word =
      0#11 ++ BitVec.ofNat 5 s.quarantinedTags ++ 0#3 ++ BitVec.ofNat 5 s.grantedTags ++ 0#3
        ++ BitVec.ofNat 5 s.freeTags ∧
    s.freeTags + s.grantedTags + s.quarantinedTags = 24 ∧
    s.busRead 0x200 .word = 0#26 ++ s.events.devLatch ∧ s.busRead 0x204 .word = 0#26 ++ s.events.devEnable ∧
    (∀ d : DomId, s.busRead (BitVec.ofNat 12 (0x240 + 4 * d.val)) .word = 0#27 ++ s.events.domLatch[d] ∧
      s.busRead (BitVec.ofNat 12 (0x280 + 4 * d.val)) .word = 0#27 ++ s.events.domEnable[d]) ∧
    s.busRead 0x2C0 .word = 0#12 ++ s.events.summary ∧ s.busRead 0x2C4 .word = 0#12 ++ s.events.sumEnable

/-- A write to an event register clears exactly the latches written 1 of that register; a write to an enable register
replaces that register's enables; the summary enables likewise; a write to an unbound-arrival set register removes exactly
the streams written 1. Nothing else changes. -/
def Obligations.EventAndSetWritesTouchTheirRegister : Prop :=
  ∀ (s : State) (v : Word),
    exec (.eventClear .device v) s = .next
      { s with events := { s.events with devLatch := s.events.devLatch &&& ~~~(v.extractLsb' 0 6) } } ∧
    (∀ l : LinkId, exec (.eventClear (.link l) v) s = .next
      { s with
        events :=
          { s.events with linkLatch := s.events.linkLatch.set l (s.events.linkLatch[l] &&& ~~~(v.extractLsb' 0 4)) } }) ∧
    (∀ d : DomId, exec (.eventClear (.domain d) v) s = .next
      { s with
        events :=
          { s.events with domLatch := s.events.domLatch.set d (s.events.domLatch[d] &&& ~~~(v.extractLsb' 0 5)) } }) ∧
    exec (.eventEnableWrite .device v) s = .next
      { s with events := { s.events with devEnable := v.extractLsb' 0 6 } } ∧
    (∀ l : LinkId, exec (.eventEnableWrite (.link l) v) s = .next
      { s with events := { s.events with linkEnable := s.events.linkEnable.set l (v.extractLsb' 0 4) } }) ∧
    (∀ d : DomId, exec (.eventEnableWrite (.domain d) v) s = .next
      { s with events := { s.events with domEnable := s.events.domEnable.set d (v.extractLsb' 0 5) } }) ∧
    exec (.summaryEnableWrite v) s = .next
      { s with events := { s.events with sumEnable := v.extractLsb' 0 20 } } ∧
    (∀ l : LinkId, exec (.unboundSetRemove l v) s = .next
      { s with
        ports := s.ports.set l
          { s.ports[l] with
            unboundSet := Vector.ofFn fun st => (s.ports[l]).unboundSet[st] && !(v.getLsbD (st.val + 1)) } })

/-- A cause sets its own latch and no other; a summary bit is set exactly while its unit has an event set and enabled; the
interrupt line is asserted exactly while an enabled device event or an enabled summary bit is set. -/
def Obligations.SummaryAndInterruptFollowLatches : Prop :=
  ∀ u : EventUnit,
    (∀ (e f : DevEvent), (u.raiseDev e).dev f = (u.dev f || decide (e = f))) ∧
    (∀ (l m : LinkId) (e f : LinkEvent),
      (u.raiseLink l e).link m f = (u.link m f || (decide (l = m) && decide (e = f)))) ∧
    (∀ (d x : DomId) (e f : DomEvent),
      (u.raiseDom d e).dom x f = (u.dom x f || (decide (d = x) && decide (e = f)))) ∧
    (∀ l : LinkId, u.summary.getLsbD l.val = true ↔
      ∃ k : Fin 4, (u.linkLatch[l]).getLsbD k.val = true ∧ (u.linkEnable[l]).getLsbD k.val = true) ∧
    (∀ d : DomId, u.summary.getLsbD (4 + d.val) = true ↔
      ∃ k : Fin 5, (u.domLatch[d]).getLsbD k.val = true ∧ (u.domEnable[d]).getLsbD k.val = true) ∧
    (u.interrupt = true ↔
      (∃ k : Fin 6, u.devLatch.getLsbD k.val = true ∧ u.devEnable.getLsbD k.val = true) ∨
      ∃ k : Fin 20, u.summary.getLsbD k.val = true ∧ u.sumEnable.getLsbD k.val = true)

/-- Only the write-1 clear and the two resets clear a latch: every other row leaves every set latch set. -/
def Obligations.LatchesStaySetUntilCleared : Prop :=
  ∀ (c : Instr) (s t : State), exec c s = .next t →
    (∀ r v, c ≠ .eventClear r v) → c ≠ .powerOnReset → c ≠ .deviceReset → (∀ off w v, c ≠ .registerWrite off w v) →
    (∀ e : DevEvent, s.events.dev e = true → t.events.dev e = true) ∧
    (∀ (l : LinkId) (e : LinkEvent), s.events.link l e = true → t.events.link l e = true) ∧
    (∀ (d : DomId) (e : DomEvent), s.events.dom d e = true → t.events.dom d e = true)

/-! ## The Table Engine -/

/-- With work at one source the engine serves it, with work at both the source other than the last served; a command code of
0x00 or above 0x18 is refused BAD_COMMAND with none of its arguments read. That a row whose work is not the one served does
not occur and changes nothing is log 2. -/
def Obligations.EngineServesTheOtherSource : Prop :=
  ∀ s : State,
    (s.engine.servesMgmt = true ↔
      s.engine.slot ≠ none ∧ (s.engine.inband = [] ∨ s.engine.lastServed = .inband)) ∧
    (s.engine.servesInband = true ↔
      s.engine.inband ≠ [] ∧ (s.engine.slot = none ∨ s.engine.lastServed = .management)) ∧
    (∀ rk ∈ commandRows, ¬(∃ c, takes rk.2 c s) → exec rk.1 s = .next s) ∧
    (¬(∃ c, ∃ k, takes k c s ∧ (k = 0 ∨ 0x18 < k)) → exec .badCommand s = .next s) ∧
    (∀ (c : Command) (k : Nat), takes k c s → (k = 0 ∨ 0x18 < k) → refused .badCommand c .badCommand s) ∧
    (s.engine.servesInband = false → ∀ r ∈ controlRows, exec r s = .next s)

/-! ## Windows -/

/-- An accepted INSTALL fills the lowest FREE slot, advances its generation, and places the slot on the domain's chain where
its rank decides. -/
def Obligations.InstallFillsLowestFreeSlot : Prop :=
  ∀ (s : State) (c : Command) (d : DomId) (x : TargetId) (i : SlotId) (pre post : List SlotId),
    takes 0x01 c s →
    argField c.args 0 0 8 = d.val → argField c.args 0 8 8 ≤ 127 → argField c.args 1 16 8 = x.val →
    permsFit (argPerms c.args) → budgetFits (argBudget c.args 6 7) → argField c.args 0 16 2 ≤ 1 →
    inService (s.domains[d]).state →
    geometryFits (argField c.args 1 0 8) (argPair c.args 2 3) (argPair c.args 4 5) →
    (s.domains[d]).chain = pre ++ post → (∀ j ∈ pre, (s.windows[j]).rank < argField c.args 0 8 8) →
    (∀ j ∈ post, argField c.args 0 8 8 < (s.windows[j]).rank) → i ∉ pre ++ post → lowestFree s i →
    exec .install s = .next (commandDone c .ok [handleWord i ((s.windows[i]).generation + 1)]
      { s with
        windows := s.windows.set i
          { state := if argField c.args 0 16 2 = 0 then .live else .suspended
            generation := (s.windows[i]).generation + 1
            domain := d
            owner := .management
            rank := argField c.args 0 8 8
            base := BitVec.ofNat 48 (argPair c.args 2 3)
            sizeExp := argField c.args 1 0 8
            target := x
            targetBase := BitVec.ofNat 64 (argPair c.args 4 5)
            perms := argPerms c.args
            budget := (argBudget c.args 6 7).map fun v => ⟨v, v⟩
            alert := false
            refs := 0 }
        domains := s.domains.set d { s.domains[d] with chain := pre ++ i :: post } })

/-- INSTALL is refused with the first check of R14 that applies, and changes nothing. -/
def Obligations.InstallRefusedByFirstFailingCheck : Prop :=
  ∀ (s : State) (c : Command), takes 0x01 c s →
    let badArgument := 15 < argField c.args 0 0 8 ∨ 127 < argField c.args 0 8 8 ∨ 3 < argField c.args 1 16 8 ∨
      ¬permsFit (argPerms c.args) ∨ ¬budgetFits (argBudget c.args 6 7) ∨ 1 < argField c.args 0 16 2
    let badGeometry := ¬geometryFits (argField c.args 1 0 8) (argPair c.args 2 3) (argPair c.args 4 5)
    (badArgument → refused .install c .badArgument s) ∧
    (¬badArgument → ∀ d : DomId, argField c.args 0 0 8 = d.val →
      let rankTaken := ∃ j ∈ (s.domains[d]).chain, (s.windows[j]).rank = argField c.args 0 8 8
      (¬inService (s.domains[d]).state → refused .install c .domainState s) ∧
      (inService (s.domains[d]).state → badGeometry → refused .install c .badGeometry s) ∧
      (inService (s.domains[d]).state → ¬badGeometry → rankTaken → refused .install c .rankTaken s) ∧
      (inService (s.domains[d]).state → ¬badGeometry → ¬rankTaken → noneFree s → refused .install c .tableFull s))

/-- An accepted REPLACE fills the lowest FREE slot with the new window, LIVE at the old window's rank and place on the
chain, and removes the old window, which becomes FREE or DRAINING. -/
def Obligations.ReplaceSwapsWindowAtItsRank : Prop :=
  ∀ (s : State) (c : Command) (old i : SlotId) (x : TargetId) (pre post : List SlotId),
    let w := s.windows[old]
    takes 0x02 c s →
    argField c.args 0 0 16 = old.val → (c.args[(0 : Fin 12)]).extractLsb' 16 8 = w.generation →
    argField c.args 1 16 8 = x.val → permsFit (argPerms c.args) → budgetFits (argBudget c.args 6 7) →
    (w.state = .live ∨ w.state = .suspended) → w.owner = .management →
    geometryFits (argField c.args 1 0 8) (argPair c.args 2 3) (argPair c.args 4 5) → lowestFree s i →
    (s.domains[w.domain]).chain = pre ++ old :: post → old ∉ pre ++ post → i ∉ pre ++ post →
    exec .replace s = .next (commandDone c (removalCode w) [handleWord i ((s.windows[i]).generation + 1)]
      { s with
        windows := (s.windows.set i
          { state := .live
            generation := (s.windows[i]).generation + 1
            domain := w.domain
            owner := .management
            rank := w.rank
            base := BitVec.ofNat 48 (argPair c.args 2 3)
            sizeExp := argField c.args 1 0 8
            target := x
            targetBase := BitVec.ofNat 64 (argPair c.args 4 5)
            perms := argPerms c.args
            budget := (argBudget c.args 6 7).map fun v => ⟨v, v⟩
            alert := false
            refs := 0 }).set old (removed w)
        domains := s.domains.set w.domain (chainLeft (s.domains[w.domain]) w (pre ++ i :: post)) })

/-- The commands that name a window are refused with the first check of their tables that applies (R16, R19, R21, R22,
R23), and change nothing. -/
def Obligations.WindowCommandsRefusedInOrder : Prop :=
  ∀ (s : State) (c : Command) (row : Instr) (k : Nat),
    (row, k) ∈ [(Instr.replace, 0x02), (Instr.retire, 0x03), (Instr.suspend, 0x04), (Instr.resume, 0x05),
      (Instr.setBudget, 0x06)] →
    takes k c s →
    let badArgument :=
      (k = 0x02 ∧ (3 < argField c.args 1 16 8 ∨ ¬permsFit (argPerms c.args) ∨ ¬budgetFits (argBudget c.args 6 7))) ∨
      (k = 0x06 ∧ ¬budgetFits (argBudget c.args 1 2))
    (badArgument → refused row c .badArgument s) ∧
    (¬badArgument → 127 < argField c.args 0 0 16 → refused row c .badHandle s) ∧
    (¬badArgument → ∀ i : SlotId, argField c.args 0 0 16 = i.val →
      let w := s.windows[i]
      let stale := (c.args[(0 : Fin 12)]).extractLsb' 16 8 ≠ w.generation ∨ w.state = .free
      let badState := w.state = .draining ∨ (k = 0x04 ∧ w.state ≠ .live) ∨ (k = 0x05 ∧ w.state ≠ .suspended)
      let badGeometry := ¬geometryFits (argField c.args 1 0 8) (argPair c.args 2 3) (argPair c.args 4 5)
      (stale → refused row c .staleHandle s) ∧
      (¬stale → badState → refused row c .windowState s) ∧
      (¬stale → ¬badState → k = 0x02 → w.owner = .self → refused row c .notOwner s) ∧
      (¬stale → ¬badState → k = 0x02 → w.owner = .management → badGeometry → refused row c .badGeometry s) ∧
      (¬stale → ¬badState → k = 0x02 → w.owner = .management → ¬badGeometry → noneFree s →
        refused row c .tableFull s))

/-- An accepted RETIRE removes the window from its chain; of a SELF window it lowers the self count and pends a notice on
every link. -/
def Obligations.RetireRemovesWindowFromChain : Prop :=
  ∀ (s : State) (c : Command) (i : SlotId) (pre post : List SlotId),
    let w := s.windows[i]
    takes 0x03 c s → argField c.args 0 0 16 = i.val → (c.args[(0 : Fin 12)]).extractLsb' 16 8 = w.generation →
    (w.state = .live ∨ w.state = .suspended) → (s.domains[w.domain]).chain = pre ++ i :: post → i ∉ pre ++ post →
    exec .retire s = .next (commandDone c (removalCode w) []
      { s with
        windows := s.windows.set i (removed w)
        domains := s.domains.set w.domain (chainLeft (s.domains[w.domain]) w (pre ++ post))
        ports := if w.owner = .self then pended w.domain none s else s.ports })

/-- SUSPEND, RESUME and SET_BUDGET change the named window in place; SUSPEND and RESUME of a SELF window pend a notice on
every link. -/
def Obligations.WindowChangedInPlace : Prop :=
  ∀ (s : State) (c : Command) (i : SlotId),
    let w := s.windows[i]
    argField c.args 0 0 16 = i.val → (c.args[(0 : Fin 12)]).extractLsb' 16 8 = w.generation →
    (takes 0x04 c s → w.state = .live → exec .suspend s = .next (commandDone c .ok []
      { s with
        windows := s.windows.set i { w with state := .suspended }
        ports := if w.owner = .self then pended w.domain none s else s.ports })) ∧
    (takes 0x05 c s → w.state = .suspended → exec .resume s = .next (commandDone c .ok []
      { s with
        windows := s.windows.set i { w with state := .live }
        ports := if w.owner = .self then pended w.domain none s else s.ports })) ∧
    (takes 0x06 c s → (w.state = .live ∨ w.state = .suspended) → budgetFits (argBudget c.args 1 2) →
      exec .setBudget s = .next (commandDone c .ok []
        { s with
          windows := s.windows.set i
            { w with budget := (argBudget c.args 1 2).map fun v => ⟨v, v⟩, alert := false } }))

/-- READ_WINDOW returns the slot's record, whatever its state, and changes nothing; a slot of 128 or above is refused. That
the words of an absent budget read 0, and that a budget's low word comes first, is the model's reading (log 11, log 23). -/
def Obligations.ReadWindowReturnsRecord : Prop :=
  ∀ (s : State) (c : Command), takes 0x07 c s →
    (127 < argField c.args 0 0 16 → refused .readWindow c .badArgument s) ∧
    (∀ i : SlotId, argField c.args 0 0 16 = i.val →
      let w := s.windows[i]
      exec .readWindow s = .next (commandDone c .ok
        ([ BitVec.ofNat 8 w.domain.val ++ w.generation ++ 0#2 ++ BitVec.ofBool w.alert
              ++ BitVec.ofBool w.budget.isSome ++ 0#1 ++ permBits w.perms ++ 0#3 ++ BitVec.ofNat 1 w.owner.num
              ++ 0#2 ++ BitVec.ofNat 2 w.state.num,
            BitVec.ofNat 8 w.refs ++ BitVec.ofNat 8 w.target.val ++ BitVec.ofNat 8 w.sizeExp ++ BitVec.ofNat 8 w.rank ]
          ++ twoWords (w.base.setWidth 64) ++ twoWords w.targetBase
          ++ twoWords (BitVec.ofNat 64 ((w.budget.map fun b => b.setValue).getD 0))
          ++ twoWords (BitVec.ofNat 64 ((w.budget.map fun b => b.remaining).getD 0))) s))

/-- A reference drop: the count falls; the last reference of a DRAINING window frees and clears the slot, lowers its
domain's draining count and sets WINDOW_FREED, and ends the purge of a PURGING domain with DOMAIN_PURGED. -/
def Obligations.ReferenceDropMayFreeWindowAndEndPurge : Prop :=
  ∀ (s : State) (h : Handle),
    let w := s.windows[h.slot]
    let x := s.domains[w.domain]
    w.generation = h.generation →
    ((w.state ≠ .draining ∨ 1 < w.refs) → s.dropRef h =
      { s with windows := s.windows.set h.slot { w with refs := w.refs - 1 } }) ∧
    (w.state = .draining → w.refs = 1 → (x.state ≠ .purging ∨ 1 < x.drainingCount) → s.dropRef h =
      { s with
        windows := s.windows.set h.slot (Window.cleared w.generation)
        domains := s.domains.set w.domain { x with drainingCount := x.drainingCount - 1 }
        events := s.events.raiseDom w.domain .windowFreed }) ∧
    (w.state = .draining → w.refs = 1 → x.state = .purging → x.drainingCount = 1 → s.dropRef h =
      { s with
        windows := s.windows.set h.slot (Window.cleared w.generation)
        domains := s.domains.set w.domain Domain.unused
        events := (s.events.raiseDom w.domain .windowFreed).raiseDom w.domain .domainPurged })

/-! ## Domains -/

/-- Accepted DOMAIN_OPEN, DOMAIN_SET and SET_FENCE write the fields they are given and nothing else. -/
def Obligations.DomainPoliciesAndFenceWritten : Prop :=
  ∀ (s : State) (c : Command) (d : DomId), argField c.args 0 0 8 = d.val →
    let x := s.domains[d]
    let ceiling := Perms.ofNat (argField c.args 0 12 3)
    (∀ m : MissPolicy, argField c.args 0 8 2 = m.num → argField c.args 0 16 5 ≤ 16 → permsFit ceiling →
      (takes 0x08 c s → x.state = .unused → exec .domainOpen s = .next (commandDone c .ok []
        { s with
          domains := s.domains.set d
            { x with
              state := .active
              missPolicy := m
              faultLimit := argField c.args 0 24 8
              selfAllowance := argField c.args 0 16 5
              selfCeiling := ceiling } })) ∧
      (takes 0x09 c s → inService x.state → x.selfCount ≤ argField c.args 0 16 5 →
        exec .domainSet s = .next (commandDone c .ok []
          { s with
            domains := s.domains.set d
              { x with
                missPolicy := m
                faultLimit := argField c.args 0 24 8
                selfAllowance := argField c.args 0 16 5
                selfCeiling := ceiling } }))) ∧
    (takes 0x0A c s → inService x.state →
      (∀ g : TargetId, (c.args[(0 : Fin 12)]).getLsbD 8 = true → argField c.args 1 16 8 = g.val →
        geometryFits (argField c.args 1 0 8) (argPair c.args 2 3) (argPair c.args 4 5) →
        let f : Fence :=
          { base := BitVec.ofNat 48 (argPair c.args 2 3)
            sizeExp := argField c.args 1 0 8
            target := g
            targetBase := BitVec.ofNat 64 (argPair c.args 4 5) }
        (∀ j ∈ x.chain, (s.windows[j]).owner = .self →
          insideFence f (s.windows[j]).base.toNat (s.windows[j]).sizeExp) →
        exec .setFence s = .next (commandDone c .ok []
          { s with domains := s.domains.set d { x with fence := some f } })) ∧
      ((c.args[(0 : Fin 12)]).getLsbD 8 = false → x.selfCount = 0 →
        exec .setFence s = .next (commandDone c .ok []
          { s with domains := s.domains.set d { x with fence := none } })))

/-- DOMAIN_OPEN, DOMAIN_SET, SET_FENCE and PURGE are refused with the first check of their rules that applies (R39, R40,
R41, R47), and change nothing. -/
def Obligations.DomainCommandsRefusedInOrder : Prop :=
  ∀ (s : State) (c : Command),
    let number := argField c.args 0 0 8
    let badPolicies := 15 < number ∨ 2 < argField c.args 0 8 2 ∨ 16 < argField c.args 0 16 5 ∨
      ¬permsFit (Perms.ofNat (argField c.args 0 12 3))
    let present := (c.args[(0 : Fin 12)]).getLsbD 8 = true
    let badFence := present ∧ ¬geometryFits (argField c.args 1 0 8) (argPair c.args 2 3) (argPair c.args 4 5)
    let f : Fence :=
      { base := BitVec.ofNat 48 (argPair c.args 2 3)
        sizeExp := argField c.args 1 0 8
        target := Fin.ofNat 4 (argField c.args 1 16 8)
        targetBase := BitVec.ofNat 64 (argPair c.args 4 5) }
    (takes 0x08 c s → badPolicies → refused .domainOpen c .badArgument s) ∧
    (takes 0x09 c s → badPolicies → refused .domainSet c .badArgument s) ∧
    (takes 0x0A c s → 15 < number ∨ (present ∧ 3 < argField c.args 1 16 8) → refused .setFence c .badArgument s) ∧
    (takes 0x0F c s → 15 < number → refused .purge c .badArgument s) ∧
    (∀ d : DomId, number = d.val →
      let x := s.domains[d]
      (takes 0x08 c s → ¬badPolicies → x.state ≠ .unused → refused .domainOpen c .domainState s) ∧
      (takes 0x09 c s → ¬badPolicies → ¬inService x.state → refused .domainSet c .domainState s) ∧
      (takes 0x09 c s → ¬badPolicies → inService x.state → argField c.args 0 16 5 < x.selfCount →
        refused .domainSet c .inUse s) ∧
      (takes 0x0F c s → ¬inService x.state → refused .purge c .domainState s) ∧
      (takes 0x0A c s → ¬(present ∧ 3 < argField c.args 1 16 8) →
        (¬inService x.state → refused .setFence c .domainState s) ∧
        (inService x.state → badFence → refused .setFence c .badGeometry s) ∧
        (inService x.state → ¬badFence → present →
          (∃ j ∈ x.chain, (s.windows[j]).owner = .self ∧
            ¬insideFence f (s.windows[j]).base.toNat (s.windows[j]).sizeExp) → refused .setFence c .inUse s) ∧
        (inService x.state → ¬present → 0 < x.selfCount → refused .setFence c .inUse s)))

/-- FREEZE, THAW, HALT and RELEASE change the domain's state from the states their rules name, pend a notice on every bound
stream, and are refused in every other case (R43 to R46). -/
def Obligations.DomainStateCommands : Prop :=
  ∀ (s : State) (c : Command) (d : DomId),
    let x := s.domains[d]
    let becomes (y : Domain) : State := commandDone c .ok [] { s with domains := s.domains.set d y, ports := pended d none s }
    (∀ rk ∈ [(Instr.freeze, 0x0B), (Instr.thaw, 0x0C), (Instr.halt, 0x0D), (Instr.release, 0x0E)],
      takes rk.2 c s → 15 < argField c.args 0 0 8 → refused rk.1 c .badArgument s) ∧
    (argField c.args 0 0 8 = d.val →
      (takes 0x0B c s →
        (x.state = .active → exec .freeze s = .next (becomes { x with state := .frozen })) ∧
        (x.state ≠ .active → refused .freeze c .domainState s)) ∧
      (takes 0x0C c s →
        (x.state = .frozen → exec .thaw s = .next (becomes { x with state := .active })) ∧
        (x.state ≠ .frozen → refused .thaw c .domainState s)) ∧
      (takes 0x0D c s →
        (x.state = .active ∨ x.state = .frozen →
          exec .halt s = .next (becomes { x with state := .halted, haltCause := none })) ∧
        (¬(x.state = .active ∨ x.state = .frozen) → refused .halt c .domainState s)) ∧
      (takes 0x0E c s →
        (x.state = .halted →
          exec .release s = .next (becomes { x with state := .active, faultCount := 0, haltCause := none })) ∧
        (x.state ≠ .halted → refused .release c .domainState s)))

/-- An accepted PURGE removes every window of the chain and every binding to the domain in one event; the domain becomes
UNUSED when nothing of it drains, and else PURGING. -/
def Obligations.PurgeEndsDomainOrWaitsForDrain : Prop :=
  ∀ (s : State) (c : Command) (d : DomId),
    let x := s.domains[d]
    let drains := x.drainingCount + x.chain.countP fun i => decide ((s.windows[i]).refs ≠ 0)
    takes 0x0F c s → argField c.args 0 0 8 = d.val → inService x.state → x.chain.Nodup →
    exec .purge s = .next (commandDone c (if drains = 0 then .ok else .pending) []
      { s with
        windows := Vector.ofFn fun i => if i ∈ x.chain then removed (s.windows[i]) else s.windows[i]
        domains := s.domains.set d
          (if drains = 0 then Domain.unused
           else { x with state := .purging, chain := [], selfCount := 0, drainingCount := drains })
        bindings := Vector.ofFn fun l => Vector.ofFn fun st =>
          if ((s.bindings[l])[st]).bound = some d then { (s.bindings[l])[st] with bound := none }
          else (s.bindings[l])[st]
        ports := Vector.ofFn fun l =>
          { s.ports[l] with
            noticeSet := Vector.ofFn fun st =>
              (s.ports[l]).noticeSet[st] && !decide (((s.bindings[l])[st]).bound = some d) } })

/-- READ_DOMAIN returns the record of a domain in any state; READ_CHAIN returns the chain length, the count returned and up
to eight slots from the start position; neither changes anything. That the words of an absent halt cause or fence read 0 is
the model's reading (log 11). -/
def Obligations.DomainReadsReturnRecordAndChain : Prop :=
  ∀ (s : State) (c : Command),
    (takes 0x10 c s → 15 < argField c.args 0 0 8 → refused .readDomain c .badArgument s) ∧
    (takes 0x11 c s → 15 < argField c.args 0 0 8 ∨ 127 < argField c.args 0 8 8 →
      refused .readChain c .badArgument s) ∧
    (∀ d : DomId, takes 0x11 c s → argField c.args 0 0 8 = d.val → argField c.args 0 8 8 ≤ 127 →
      let chain := (s.domains[d]).chain
      let page := (chain.drop (argField c.args 0 8 8)).take 8
      let at_ (k : Nat) : BitVec 8 := BitVec.ofNat 8 ((page.map (·.val)).getD k 0)
      exec .readChain s = .next (commandDone c .ok
        [ 0#16 ++ BitVec.ofNat 8 page.length ++ BitVec.ofNat 8 chain.length,
          at_ 3 ++ at_ 2 ++ at_ 1 ++ at_ 0, at_ 7 ++ at_ 6 ++ at_ 5 ++ at_ 4 ] s)) ∧
    (∀ d : DomId, takes 0x10 c s → argField c.args 0 0 8 = d.val →
      let x := s.domains[d]
      exec .readDomain s = .next (commandDone c .ok
        ([ BitVec.ofNat 8 x.faultCount ++ BitVec.ofNat 8 x.faultLimit ++ 0#2 ++ BitVec.ofBool x.fence.isSome
              ++ BitVec.ofBool x.haltCause.isSome ++ 0#1 ++ permBits x.selfCeiling ++ 0#2
              ++ BitVec.ofNat 2 x.missPolicy.num ++ 0#1 ++ BitVec.ofNat 3 x.state.num,
            BitVec.ofNat 8 x.drainingCount ++ BitVec.ofNat 8 x.chain.length ++ 0#3 ++ BitVec.ofNat 5 x.selfCount
              ++ 0#3 ++ BitVec.ofNat 5 x.selfAllowance ]
          ++ (match x.haltCause with
              | none => [0, 0, 0]
              | some h =>
                (0#12 ++ BitVec.ofNat 4 (h.stream.val + 1) ++ 0#6 ++ BitVec.ofNat 2 h.link.val ++ 0#6
                  ++ BitVec.ofNat 2 h.kind.num) :: twoWords (h.addr.setWidth 64))
          ++ (match x.fence with
              | none => [0, 0, 0, 0, 0]
              | some f =>
                (0#8 ++ BitVec.ofNat 8 f.target.val ++ 0#8 ++ BitVec.ofNat 8 f.sizeExp)
                  :: (twoWords (f.base.setWidth 64) ++ twoWords f.targetBase))) s))

/-! ## Bindings -/

/-- BIND, UNBIND and STREAM_SET: the entry each writes when accepted, and the first failing check when refused. -/
def Obligations.BindingCommandsWriteOneEntry : Prop :=
  ∀ (s : State) (c : Command),
    let stream := argField c.args 0 8 8
    let domain := argField c.args 0 16 8
    (∀ rk ∈ [(Instr.bind, 0x12), (Instr.unbind, 0x13)], takes rk.2 c s →
      3 < argField c.args 0 0 8 → refused rk.1 c .badArgument s) ∧
    (∀ rk ∈ [(Instr.bind, 0x12), (Instr.unbind, 0x13)], takes rk.2 c s →
      argField c.args 0 0 8 ≤ 3 → (stream = 0 ∨ 15 < stream) → refused rk.1 c .badStream s) ∧
    (takes 0x14 c s → 3 < argField c.args 0 0 8 ∨ 1 < argField c.args 0 16 2 ∨ 1 < argField c.args 0 20 2 →
      refused .streamSet c .badArgument s) ∧
    (takes 0x14 c s → argField c.args 0 0 8 ≤ 3 → argField c.args 0 16 2 ≤ 1 → argField c.args 0 20 2 ≤ 1 →
      (stream = 0 ∨ 15 < stream) → refused .streamSet c .badStream s) ∧
    (∀ (l : LinkId) (st : DataStream), argField c.args 0 0 8 = l.val → stream = st.val + 1 →
      let x := (s.bindings[l])[st]
      let writes (y : StreamEntry) : Vector (Vector StreamEntry 15) 4 := s.bindings.set l ((s.bindings[l]).set st y)
      (takes 0x12 c s → 15 < domain → refused .bind c .badArgument s) ∧
      (∀ d : DomId, domain = d.val → takes 0x12 c s →
        (¬inService (s.domains[d]).state → refused .bind c .domainState s) ∧
        (inService (s.domains[d]).state → x.bound ≠ none → refused .bind c .inUse s) ∧
        (inService (s.domains[d]).state → x.bound = none → exec .bind s = .next (commandDone c .ok []
          { s with bindings := writes { x with bound := some d } }))) ∧
      (takes 0x13 c s →
        (x.bound = none → refused .unbind c .badStream s) ∧
        (x.bound ≠ none → exec .unbind s = .next (commandDone c .ok []
          { s with
            bindings := writes { x with bound := none }
            ports := s.ports.set l { s.ports[l] with noticeSet := (s.ports[l]).noticeSet.set st false } }))) ∧
      (takes 0x14 c s → argField c.args 0 16 2 ≤ 1 → argField c.args 0 20 2 ≤ 1 →
        exec .streamSet s = .next (commandDone c .ok []
          { s with
            bindings := writes
              { x with
                enabled := decide (argField c.args 0 16 2 = 1)
                unboundPolicy := if argField c.args 0 20 2 = 1 then .absorb else .refuse } })))

/-! ## Resolving a request -/

/-- The four stages of a resolution and the five checks of the deciding window, in their order (R56 to R65). -/
def Obligations.ResolutionStagesInOrder : Prop :=
  ∀ (s : State) (q : Request),
    let x := (s.bindings[q.link])[q.stream]
    (x.enabled = false → s.ruling q = .noStream) ∧
    (x.enabled = true → x.bound = none → s.ruling q = .unbound x.unboundPolicy) ∧
    (x.enabled = true → ∀ d : DomId, x.bound = some d →
      let dom := s.domains[d]
      (dom.state = .halted → s.ruling q = .halted) ∧
      (dom.state = .active ∨ dom.state = .frozen →
        ((∀ j ∈ dom.chain, ¬coversByte (s.windows[j]) q.addr) → s.ruling q = .miss d dom.missPolicy) ∧
        (∀ (i : SlotId) (pre post : List SlotId), dom.chain = pre ++ i :: post →
          (∀ j ∈ pre, ¬coversByte (s.windows[j]) q.addr) → coversByte (s.windows[i]) q.addr →
          let w := s.windows[i]
          let ends := w.base.toNat + 2 ^ w.sizeExp - 1
          let last := q.addr.toNat + q.length - 1
          let permitted := (q.kind = .wr ∧ w.perms.write = true) ∨ (q.kind = .rd ∧ w.perms.read = true) ∨
            (q.kind = .rds ∧ w.perms.read = true ∧ w.perms.speculative = true)
          let online := s.fabric.targets[w.target] = .online
          let affordable := ∀ b ∈ w.budget, q.length ≤ b.remaining
          (w.state ≠ .live → s.ruling q = .suspended d i) ∧
          (w.state = .live → ends < last → s.ruling q = .boundary d i) ∧
          (w.state = .live → last ≤ ends → ¬permitted → s.ruling q = .access d i) ∧
          (w.state = .live → last ≤ ends → permitted → ¬online → s.ruling q = .targetOffline d i) ∧
          (w.state = .live → last ≤ ends → permitted → online → ¬affordable → s.ruling q = .budget d i) ∧
          (w.state = .live → last ≤ ends → permitted → online → affordable → s.ruling q = .admits d i))))

/-- An examination that ends in a refusal without a fault, or absorbs its request: the reply handed and the changes made,
for each way a resolution can end (the outcome table of section 3.6; R55, R57, R69). -/
def Obligations.ExaminationAnswersWithoutAdmission : Prop :=
  ∀ (s : State) (l : LinkId) (e : EntryNo) (q : Request) (rest : List Request),
    (s.ports[l]).state = .up → (s.ports[l]).ingress = q :: rest → q.link = l → lowestFreeEntry s l e →
    let t := popped l rest s
    let answers (a : DataAnswer) (u : State) : Prop :=
      exec (.examination l) s = .next (handed l ⟨q.tag, q.stream, a⟩ u)
    let zeros : DataAnswer := if q.kind = .wr then .done else .data (List.replicate q.length 0)
    (s.ruling q = .noStream → answers (.refused .noStream) t) ∧
    (q.kind = .rds → s.ruling q ≠ .noStream → (∀ d i, s.ruling q ≠ .admits d i) → answers (.refused .specDeclined) t) ∧
    (q.kind ≠ .rds →
      (∀ p, s.ruling q = .unbound p →
        let old := (s.ports[l]).unboundSet
        answers (if p = .refuse then .refused .noRoute else zeros)
          { t with
            ports := t.ports.set l { t.ports[l] with unboundSet := old.set q.stream true }
            events :=
              if (∀ st : DataStream, old[st] = false) then s.events.raiseLink l .unbound else s.events }) ∧
      (s.ruling q = .halted → answers (.refused .domainHalted) t) ∧
      (∀ d, s.ruling q = .miss d .refuseQuiet → answers (.refused .noWindow) t) ∧
      (∀ d, s.ruling q = .miss d .absorb → answers zeros t) ∧
      (∀ d i, s.ruling q = .suspended d i → answers (.refused .suspended) t) ∧
      (∀ d i, s.ruling q = .targetOffline d i → answers (.refused .targetOffline) t) ∧
      (∀ d i, s.ruling q = .budget d i → answers (.refused .budget)
        { t with
          windows := s.windows.set i { s.windows[i] with alert := true }
          events := if (s.windows[i]).alert = true then s.events
            else s.events.raiseDom (s.windows[i]).domain .budgetSpent }))

/-- A BOUNDARY, an ACCESS, and a NO_WINDOW under REFUSE of a WR or RD count a fault; the count stays at 255; with a nonzero
limit reached the domain halts in the same event with the cause recorded, DOMAIN_HALTED set and a notice pended (R33, R34,
R68). -/
def Obligations.ExaminationCountsFaultAndHalts : Prop :=
  ∀ (s : State) (l : LinkId) (e : EntryNo) (q : Request) (rest : List Request) (d : DomId) (kind : FaultKind)
    (code : ReplyCode),
    (s.ports[l]).state = .up → (s.ports[l]).ingress = q :: rest → q.link = l → lowestFreeEntry s l e →
    q.kind ≠ .rds →
    ((s.ruling q = .miss d .refuse ∧ kind = .noWindow ∧ code = .noWindow) ∨
      (∃ i, s.ruling q = .boundary d i ∧ kind = .boundary ∧ code = .boundary) ∨
      (∃ i, s.ruling q = .access d i ∧ kind = .access ∧ code = .access)) →
    let t := popped l rest s
    let x := s.domains[d]
    let count := if x.faultCount < 255 then x.faultCount + 1 else 255
    let answer : DataReply := ⟨q.tag, q.stream, .refused code⟩
    (x.faultLimit = 0 ∨ count < x.faultLimit → exec (.examination l) s = .next (handed l answer
      { t with domains := s.domains.set d { x with faultCount := count } })) ∧
    (x.faultLimit ≠ 0 → x.faultLimit ≤ count → exec (.examination l) s = .next (handed l answer
      { t with
        domains := s.domains.set d
          { x with state := .halted, faultCount := count, haltCause := some ⟨kind, l, q.stream, q.addr⟩ }
        events := s.events.raiseDom d .domainHalted
        ports := pended d none t }))

/-- An admission, of any kind of request: the charge with its alert, the reference, the translation, and the entry that
waits for a tag, in one event (R66, R67, R12, R8, R90). -/
def Obligations.ExaminationAdmitsIntoTracker : Prop :=
  ∀ (s : State) (l : LinkId) (e : EntryNo) (q : Request) (rest : List Request) (d : DomId) (i : SlotId),
    (s.ports[l]).state = .up → (s.ports[l]).ingress = q :: rest → q.link = l → lowestFreeEntry s l e →
    s.ruling q = .admits d i →
    let t := popped l rest s
    let w := s.windows[i]
    let spent := ∃ b ∈ w.budget, b.remaining - q.length = 0
    ∃ u : State, exec (.examination l) s = .next u ∧
      (spent → u.windows = s.windows.set i
        { w with
          budget := w.budget.map fun b => { b with remaining := b.remaining - q.length }
          alert := true
          refs := w.refs + 1 }) ∧
      (¬spent → u.windows = s.windows.set i
        { w with
          budget := w.budget.map fun b => { b with remaining := b.remaining - q.length }
          refs := w.refs + 1 }) ∧
      (spent → w.alert = false → u.events = s.events.raiseDom w.domain .budgetSpent) ∧
      (¬(spent ∧ w.alert = false) → u.events = s.events) ∧
      u = { t with
        windows := u.windows
        events := u.events
        entries := s.entries.set l ((s.entries[l]).set e (.waitTag
          { tag := q.tag
            kind := q.kind
            stream := q.stream
            length := q.length
            window := ⟨i, w.generation⟩
            target := w.target
            addr := w.targetBase + (q.addr - w.base).setWidth 64
            data := q.data }))
        waiting := s.waiting.set l (s.waiting[l] ++ [e]) }

/-- PROBE reports what a real resolution would give, and changes nothing; it is refused with the first check of R138 that
applies. -/
def Obligations.ProbeReportsWithoutChange : Prop :=
  ∀ (s : State) (c : Command), takes 0x18 c s →
    let stream := argField c.args 0 8 8
    let badRange := 2 ^ 48 ≤ argPair c.args 2 3 ∨ 2 ^ 48 ≤ argPair c.args 2 3 + argField c.args 1 0 16 - 1
    (3 < argField c.args 0 0 8 → refused .probe c .badArgument s) ∧
    (argField c.args 0 0 8 ≤ 3 → (stream = 0 ∨ 15 < stream) → refused .probe c .badStream s) ∧
    (argField c.args 0 0 8 ≤ 3 → 0 < stream → stream ≤ 15 → argField c.args 0 16 2 = 3 →
      refused .probe c .badArgument s) ∧
    (argField c.args 0 0 8 ≤ 3 → 0 < stream → stream ≤ 15 → argField c.args 0 16 2 ≤ 2 →
      (argField c.args 1 0 16 = 0 ∨ 512 < argField c.args 1 0 16 ∨ badRange) → refused .probe c .badArgument s) ∧
    (∀ (l : LinkId) (st : DataStream) (k : ReqKind), argField c.args 0 0 8 = l.val → stream = st.val + 1 →
      ((k = .wr ∧ argField c.args 0 16 2 = 0) ∨ (k = .rd ∧ argField c.args 0 16 2 = 1) ∨
        (k = .rds ∧ argField c.args 0 16 2 = 2)) →
      0 < argField c.args 1 0 16 → argField c.args 1 0 16 ≤ 512 → ¬badRange →
      let q : Request :=
        { link := l
          tag := 0
          kind := k
          stream := st
          addr := BitVec.ofNat 48 (argPair c.args 2 3)
          length := argField c.args 1 0 16
          data := none }
      let outcome : BitVec 8 := BitVec.ofNat 8 ((s.ruling q).outcome k).num
      ((s.ruling q).decided = none → exec .probe s = .next (commandDone c .ok [0#23 ++ 0#1 ++ outcome] s)) ∧
      (∀ i : SlotId, (s.ruling q).decided = some i → exec .probe s = .next (commandDone c .ok
        ([0#23 ++ 1#1 ++ outcome, handleWord i (s.windows[i]).generation] ++
          twoWords ((s.windows[i]).targetBase + (q.addr - (s.windows[i]).base).setWidth 64)) s)))

/-! ## The tracker and the fabric side -/

/-- A grant gives the lowest free tag to the head of the waiting list of the first link, searched from the one after the
last granted, that has one waiting; the deadline is the timeout setting from now, and the fabric request leaves in the same
event. -/
def Obligations.GrantServesNextLinkWithLowestTag : Prop :=
  ∀ (s : State) (g : TagNo) (l : LinkId) (e : EntryNo) (rest : List EntryNo) (r : EntryReq) (n : Fin 4),
    s.fabric.tags[g] = .free → (∀ h : TagNo, h < g → s.fabric.tags[h] ≠ .free) →
    l = s.fabric.lastGranted + 1 + n → (∀ m : Fin 4, m < n → s.waiting[s.fabric.lastGranted + 1 + m] = []) →
    s.waiting[l] = e :: rest → (s.entries[l])[e] = .waitTag r →
    exec .grant s = .next
      { s with
        entries := s.entries.set l ((s.entries[l]).set e (.issued r g (s.now + s.fabric.timeout)))
        waiting := s.waiting.set l rest
        fabric := { s.fabric with tags := s.fabric.tags.set g (.held l e), lastGranted := l }
        fabricSent := s.fabricSent ++
          [{ target := r.target
             tag := g
             write := decide (r.kind = .wr)
             addr := r.addr
             length := r.length
             data := r.data }] }

/-- A completion is matched by its tag alone: it ends the entry that holds the tag, frees a quarantined tag with
LATE_COMPLETION, and is stray for a free tag or a number above 23 (R96, R97). -/
def Obligations.CompletionMatchedByTag : Prop :=
  ∀ (s : State) (n : Nat) (st : CompletionStatus) (data : List Byte),
    (23 < n → exec (.completion n st data) s = .next { s with events := s.events.raiseDev .strayCompletion }) ∧
    (∀ g : TagNo, n = g.val →
      (s.fabric.tags[g] = .free →
        exec (.completion n st data) s = .next { s with events := s.events.raiseDev .strayCompletion }) ∧
      (∀ x : TargetId, s.fabric.tags[g] = .quarantined x → exec (.completion n st data) s = .next
        { s with
          fabric := { s.fabric with tags := s.fabric.tags.set g .free }
          events := s.events.raiseDev .lateCompletion }) ∧
      (∀ (l : LinkId) (e : EntryNo) (r : EntryReq) (dl : Nat), s.fabric.tags[g] = .held l e →
        (s.entries[l])[e] = .issued r g dl →
        exec (.completion n st data) s = .next (handed l
          ⟨r.tag, r.stream,
            if st = .error then .refused .targetError
            else if r.kind = .wr then .done
            else if data.length = r.length then .data data
            else .refused .targetError⟩
          (State.dropRef r.window
            { s with
              entries := s.entries.set l ((s.entries[l]).set e .free)
              fabric := { s.fabric with tags := s.fabric.tags.set g .free } }))))

/-- An expired deadline ends the ISSUED entry with TIMEOUT and puts its tag in the quarantine; the clock stands at the
deadline or later. That the event moves the clock is the model's choice (log 4). -/
def Obligations.DeadlineExpiryQuarantinesTag : Prop :=
  ∀ (s : State) (l : LinkId) (e : EntryNo) (r : EntryReq) (g : TagNo) (dl : Nat),
    (s.entries[l])[e] = .issued r g dl →
    let t := handed l ⟨r.tag, r.stream, .refused .timeout⟩
      (State.dropRef r.window
        { s with
          now := max s.now dl
          entries := s.entries.set l ((s.entries[l]).set e .free)
          fabric := { s.fabric with tags := s.fabric.tags.set g (.quarantined r.target) } })
    exec (.deadlineExpiry l e) s = .next { t with events := t.events.raiseDev .quarantine }

/-- TARGET_SET: no effect for the state already held; going OFFLINE ends the target's WAIT_TAG entries with TARGET_ERROR;
returning ends its ISSUED entries with TARGET_ERROR and frees their tags and its quarantined tags (R114, R102, R103, R115,
R116). The order of the replies handed in the one event is the model's choice (log 16); that the references dropped may set
WINDOW_FREED and DOMAIN_PURGED is the model's reading of R114 beside R9 (log 22). -/
def Obligations.TargetSetFourCases : Prop :=
  ∀ (s : State) (c : Command), takes 0x15 c s →
    (3 < argField c.args 0 0 8 ∨ 1 < argField c.args 0 8 2 → refused .targetSet c .badArgument s) ∧
    (∀ x : TargetId, argField c.args 0 0 8 = x.val →
      let word (before : BitVec 1) (ended freedTags : Nat) : Word :=
        0#8 ++ BitVec.ofNat 8 freedTags ++ BitVec.ofNat 8 ended ++ 0#7 ++ before
      let waits := entriesWith s fun _ _ y => waitingFor x y
      let issues := entriesWith s fun _ _ y => issuedTo x y
      (argField c.args 0 8 2 = 1 → s.fabric.targets[x] = .online →
        exec .targetSet s = .next (commandDone c .ok [word 1 0 0] s)) ∧
      (argField c.args 0 8 2 = 0 → s.fabric.targets[x] = .offline →
        exec .targetSet s = .next (commandDone c .ok [word 0 0 0] s)) ∧
      (argField c.args 0 8 2 = 0 → s.fabric.targets[x] = .online →
        exec .targetSet s = .next (commandDone c .ok [word 1 waits.length 0]
          { dropAll ((requestsOf s waits).map (·.window)) s with
            ports := targetErrors s waits
            entries := freed s waits
            waiting := stoppedWaiting s waits
            fabric := { s.fabric with targets := s.fabric.targets.set x .offline } })) ∧
      (argField c.args 0 8 2 = 1 → s.fabric.targets[x] = .offline → tagsHeldByIssued s →
        exec .targetSet s = .next (commandDone c .ok
          [word 0 issues.length ((List.finRange 24).countP fun g => decide (s.fabric.tags[g] = .quarantined x))]
          { dropAll ((requestsOf s issues).map (·.window)) s with
            ports := targetErrors s issues
            entries := freed s issues
            fabric :=
              { s.fabric with
                targets := s.fabric.targets.set x .online
                tags := Vector.ofFn fun g =>
                  match s.fabric.tags[g] with
                  | .free => .free
                  | .held l e => if (l, e) ∈ issues then .free else .held l e
                  | .quarantined y => if y = x then .free else .quarantined y } })))

/-- SET_TIMEOUT takes 16 to 16,384 microseconds, returns the setting before, and changes the setting alone. -/
def Obligations.SetTimeoutChangesSettingAlone : Prop :=
  ∀ (s : State) (c : Command), takes 0x16 c s →
    let v := (c.args[(0 : Fin 12)]).toNat
    (v < 16 ∨ 16384 < v → refused .setTimeout c .badArgument s) ∧
    (16 ≤ v → v ≤ 16384 → exec .setTimeout s = .next (commandDone c .ok [BitVec.ofNat 32 s.fabric.timeout]
      { s with fabric := { s.fabric with timeout := v } }))

/-! ## In-band control -/

/-- A control request that arrives on an UP link meets the lines of R142 in order; on a link in another state it is
discarded. That a reply the port gives echoes the whole of byte 2 is the model's reading (log 7). -/
def Obligations.ControlArrivalCheckedInOrder : Prop :=
  ∀ (s : State) (l : LinkId) (tag : CtlTag) (byte2 op : Byte) (body : List Byte),
    let p := s.ports[l]
    let known := op = 1 ∨ op = 2 ∨ op = 3 ∨ op = 4
    let fits := (op = 1 ∧ body.length = 12) ∨ (op = 2 ∧ body.length = 4) ∨ (op = 3 ∧ body.length = 8) ∨
      (op = 4 ∧ body.length = 0)
    let accepted : LinkPort := { p with ctlCredits := p.ctlCredits - 1, unrepliedCtl := p.unrepliedCtl.set tag true }
    let answered (code : ResultCode) : State :=
      { s with ports := s.ports.set l { accepted with outCtl := p.outCtl ++ [⟨tag, byte2, code, []⟩] } }
    let runs := exec (.ctl l tag byte2 op body) s
    (p.state ≠ .up → runs = .next s) ∧
    (p.state = .up → p.ctlCredits = 0 → runs = .next (violates l .noControlCredit s)) ∧
    (p.state = .up → p.ctlCredits ≠ 0 → p.unrepliedCtl[tag] = true →
      runs = .next (violates l .duplicateControlTag s)) ∧
    (p.state = .up → p.ctlCredits ≠ 0 → p.unrepliedCtl[tag] = false →
      (¬known ∨ ¬fits → runs = .next (answered .badArgument)) ∧
      (fits → 6 ≤ s.engine.inband.length →
        runs = .next { answered .busy with events := s.events.raiseDev .inbandFull }) ∧
      (∀ o : CtlOp, fits → s.engine.inband.length < 6 →
        ((o = .openWindow ∧ op = 1) ∨ (o = .closeWindow ∧ op = 2) ∨ (o = .narrow ∧ op = 3) ∨ (o = .status ∧ op = 4)) →
        runs = .next
          { s with
            ports := s.ports.set l accepted
            engine := { s.engine with inband := s.engine.inband ++ [⟨l, tag, byte2, o, body⟩] } }))

/-- A control request is refused with the first check of R145 and of its operation that applies, and changes nothing. -/
def Obligations.ControlRequestsRefusedInOrder : Prop :=
  ∀ (s : State) (q : CtlRequest) (rest : List CtlRequest) (row : Instr),
    (row, q.op) ∈ [(Instr.openWindow, CtlOp.openWindow), (Instr.closeWindow, CtlOp.closeWindow),
      (Instr.narrow, CtlOp.narrow), (Instr.status, CtlOp.status)] →
    takesControl q.op q rest s →
    let stream := q.byte2.toNat % 16
    let handled := q.op = .closeWindow ∨ q.op = .narrow
    let slot := fieldAtBytes q.body 0 2
    let base := fieldAtBytes q.body 0 8
    let n := (byteAt q.body 8).toNat
    let perms := Perms.ofNat (byteAt q.body 9).toNat
    let badPerms := q.op = .openWindow ∧ ¬permsFit perms
    let stale := ∀ i : SlotId, slot = i.val → byteAt q.body 2 ≠ (s.windows[i]).generation ∨ (s.windows[i]).state = .free
    let no (code : ResultCode) := controlRefused row q rest code s
    (stream = 0 → no .badStream) ∧
    (stream ≠ 0 → badPerms → no .badArgument) ∧
    (stream ≠ 0 → handled → 127 < slot → no .badHandle) ∧
    (stream ≠ 0 → handled → slot ≤ 127 → stale → no .staleHandle) ∧
    (¬badPerms → (handled → slot ≤ 127 ∧ ¬stale) → ∀ st : DataStream, stream = st.val + 1 →
      let x := (s.bindings[q.link])[st]
      (x.bound = none → no .badStream) ∧
      (∀ d : DomId, x.bound = some d →
        let dom := s.domains[d]
        let outside := ∀ f ∈ dom.fence, ¬insideFence f base n
        let within := perms.subset dom.selfCeiling = true
        (dom.state ≠ .active → no .frozen) ∧
        (dom.state = .active → q.op = .openWindow →
          (¬areaFits n base → no .badGeometry) ∧
          (areaFits n base → outside → no .outsideFence) ∧
          (areaFits n base → ¬outside → ¬within → no .ceiling) ∧
          (areaFits n base → ¬outside → within → dom.selfCount = dom.selfAllowance → no .allowance) ∧
          (areaFits n base → ¬outside → within → dom.selfCount ≠ dom.selfAllowance → noneFree s → no .tableFull)) ∧
        (dom.state = .active → handled → ∀ i : SlotId, slot = i.val →
          ((s.windows[i]).state = .draining → no .windowState) ∧
          ((s.windows[i]).state ≠ .draining → ((s.windows[i]).owner = .management ∨ (s.windows[i]).domain ≠ d) →
            no .notOwner))))

/-- An accepted OPEN creates a LIVE SELF window in the lowest FREE slot, at the lowest free rank from 128, translated from
the fence; it sets SELF_CHANGED and pends a notice on the other links (R147, R151). -/
def Obligations.OpenCreatesSelfWindow : Prop :=
  ∀ (s : State) (q : CtlRequest) (rest : List CtlRequest) (st : DataStream) (d : DomId) (f : Fence) (i : SlotId)
    (rank : Nat) (pre post : List SlotId),
    let x := s.domains[d]
    let base := fieldAtBytes q.body 0 8
    let n := (byteAt q.body 8).toNat
    let perms := Perms.ofNat (byteAt q.body 9).toNat
    takesControl .openWindow q rest s → q.byte2.toNat % 16 = st.val + 1 →
    ((s.bindings[q.link])[st]).bound = some d → x.state = .active → permsFit perms → areaFits n base →
    x.fence = some f → insideFence f base n → perms.subset x.selfCeiling = true → x.selfCount ≠ x.selfAllowance →
    lowestFree s i → x.chain = pre ++ post → i ∉ pre ++ post →
    128 ≤ rank → rank ≤ 255 → (∀ j ∈ pre, (s.windows[j]).rank < rank) → (∀ j ∈ post, rank < (s.windows[j]).rank) →
    (∀ k : Nat, 128 ≤ k → k < rank → ∃ j ∈ pre, (s.windows[j]).rank = k) →
    exec .openWindow s = .next (controlDone q rest .ok
      (leBytes 2 i.val ++ [(s.windows[i]).generation + 1, 0])
      { s with
        windows := s.windows.set i
          { state := .live
            generation := (s.windows[i]).generation + 1
            domain := d
            owner := .self
            rank := rank
            base := BitVec.ofNat 48 base
            sizeExp := n
            target := f.target
            targetBase := f.targetBase + (BitVec.ofNat 48 base - f.base).setWidth 64
            perms := perms
            budget := none
            alert := false
            refs := 0 }
        domains := s.domains.set d { x with chain := pre ++ i :: post, selfCount := x.selfCount + 1 }
        events := s.events.raiseDom d .selfChanged
        ports := pended d (some q.link) s })

/-- Accepted CLOSE and NARROW: CLOSE removes the SELF window as a retirement does; NARROW keeps the permissions that stand
in both sets, without SPECULATIVE when READ is not kept; both set SELF_CHANGED and pend a notice on the other links (R148,
R149, R151). -/
def Obligations.CloseAndNarrowChangeOwnWindow : Prop :=
  ∀ (s : State) (q : CtlRequest) (rest : List CtlRequest) (st : DataStream) (d : DomId) (i : SlotId),
    let w := s.windows[i]
    let given := Perms.ofNat (byteAt q.body 4).toNat
    q.byte2.toNat % 16 = st.val + 1 → ((s.bindings[q.link])[st]).bound = some d → (s.domains[d]).state = .active →
    fieldAtBytes q.body 0 2 = i.val → byteAt q.body 2 = w.generation → (w.state = .live ∨ w.state = .suspended) →
    w.owner = .self → w.domain = d →
    (takesControl .closeWindow q rest s → ∀ pre post : List SlotId, (s.domains[d]).chain = pre ++ i :: post →
      i ∉ pre ++ post → exec .closeWindow s = .next (controlDone q rest (removalCode w) []
        { s with
          windows := s.windows.set i (removed w)
          domains := s.domains.set d (chainLeft (s.domains[d]) w (pre ++ post))
          events := s.events.raiseDom d .selfChanged
          ports := pended d (some q.link) s })) ∧
    (takesControl .narrow q rest s →
      let kept : Perms :=
        { read := w.perms.read && given.read
          write := w.perms.write && given.write
          speculative := w.perms.speculative && given.speculative && (w.perms.read && given.read) }
      exec .narrow s = .next (controlDone q rest .ok [0#5 ++ permBits kept, 0, 0, 0]
        { s with
          windows := s.windows.set i { w with perms := kept }
          events := s.events.raiseDom d .selfChanged
          ports := pended d (some q.link) s }))

/-- An accepted STATUS reports the domain and one entry for each SELF window on its chain, in chain order, and changes
nothing (R150, R190). -/
def Obligations.StatusReportsSelfWindows : Prop :=
  ∀ (s : State) (q : CtlRequest) (rest : List CtlRequest) (st : DataStream) (d : DomId),
    let x := s.domains[d]
    takesControl .status q rest s → q.byte2.toNat % 16 = st.val + 1 → ((s.bindings[q.link])[st]).bound = some d →
    x.state = .active →
    exec .status s = .next (controlDone q rest .ok
      ([1, BitVec.ofNat 8 x.faultCount, BitVec.ofNat 8 x.selfAllowance, BitVec.ofNat 8 x.selfCount, 0, 0, 0, 0] ++
        (x.chain.filter fun i => decide ((s.windows[i]).owner = .self)).flatMap fun i =>
          let w := s.windows[i]
          leBytes 2 i.val ++ [w.generation, BitVec.ofNat 8 w.state.num] ++ leBytes 8 w.base.toNat ++
            [BitVec.ofNat 8 w.sizeExp, 0#5 ++ permBits w.perms, 0, 0]) s)

/-! ## Peripheral links -/

/-- A data request that arrives on an UP link is accepted into the ingress queue, or is the protocol error that R164's
first failing line names; on a link in another state it is discarded. -/
def Obligations.DataRequestAcceptedOrProtocolError : Prop :=
  ∀ (s : State) (l : LinkId) (tag : PeerTag) (stream : StreamNo) (addr : InAddr) (row : Instr) (kind : ReqKind)
    (len : Nat) (data : Option (List Byte)),
    ((∃ bytes, row = .wr l tag stream addr bytes ∧ kind = .wr ∧ len = bytes.length ∧ data = some bytes) ∨
      (∃ n, row = .rd l tag stream addr n ∧ kind = .rd ∧ len = n.toNat ∧ data = none) ∨
      (∃ n, row = .rds l tag stream addr n ∧ kind = .rds ∧ len = n.toNat ∧ data = none)) →
    let p := s.ports[l]
    let badLength := len = 0 ∨ 512 < len
    let badRange := 2 ^ 48 - 1 < addr.toNat + len - 1
    (p.state ≠ .up → exec row s = .next s) ∧
    (p.state = .up →
      (stream = 0 → exec row s = .next (violates l .streamZero s)) ∧
      (stream ≠ 0 → badLength → exec row s = .next (violates l .badLength s)) ∧
      (stream ≠ 0 → ¬badLength → badRange → exec row s = .next (violates l .badRange s)) ∧
      (stream ≠ 0 → ¬badLength → ¬badRange → p.dataCredits = 0 →
        exec row s = .next (violates l .noDataCredit s)) ∧
      (stream ≠ 0 → ¬badLength → ¬badRange → p.dataCredits ≠ 0 → p.unrepliedTags[tag] = true →
        exec row s = .next (violates l .duplicateTag s)) ∧
      (∀ st : DataStream, stream.val = st.val + 1 → ¬badLength → ¬badRange → p.dataCredits ≠ 0 →
        p.unrepliedTags[tag] = false → exec row s = .next
          { s with
            ports := s.ports.set l
              { p with
                ingress := p.ingress ++ [⟨l, tag, kind, st, addr, len, data⟩]
                dataCredits := p.dataCredits - 1
                unrepliedTags := p.unrepliedTags.set tag true } }))

/-- Training: the peer's HELLO brings a TRAINING link UP with full credits and LINK_UP; a detected signal trains a DOWN
link; the expired HELLO timer sends HELLO again; the expired handshake timer trains a RESETTING link. A HELLO elsewhere is
discarded. That an expiry moves the clock, and that the next HELLO timer runs from the expiry event, are log 4 and 10. -/
def Obligations.TrainingBringsLinkUp : Prop :=
  ∀ (s : State) (l : LinkId),
    let p := s.ports[l]
    (p.state ≠ .training → exec (.hello l) s = .next s) ∧
    (p.state = .training → exec (.hello l) s = .next
      { s with
        ports := s.ports.set l
          { p with
            state := .up
            helloTimer := none
            dataCredits := 12
            unrepliedTags := Vector.replicate 16 false
            ctlCredits := 2
            unrepliedCtl := Vector.replicate 2 false
            noticeCredit := .held }
        events := s.events.raiseLink l .linkUp }) ∧
    (p.state = .down → exec (.signalDetection l) s = .next
      (trains l { s with ports := s.ports.set l { p with signal := true } })) ∧
    (p.state = .disabled → exec (.signalDetection l) s = .next
      { s with ports := s.ports.set l { p with signal := true } }) ∧
    (∀ t : Nat, p.state = .training → p.helloTimer = some t → exec (.helloTimerExpiry l) s = .next
      (sentOn l helloBytes
        { s with
          now := max s.now t
          ports := s.ports.set l { p with helloTimer := some (max s.now t + 1000) } })) ∧
    (∀ t : Nat, p.state = .resetting → p.handshakeTimer = some t →
      exec (.handshakeTimerExpiry l) s = .next (trains l { s with now := max s.now t }))

/-- How a link leaves UP at the peer's LINK_RESET, at signal loss and at an unknown message, and what those events do in
the other states (R160, R162, R168, R170). -/
def Obligations.LinkResetLossAndUnknownKind : Prop :=
  ∀ (s : State) (l : LinkId),
    let p := s.ports[l]
    let lost : State := { s with ports := s.ports.set l { p with signal := false } }
    (p.state = .up → exec (.linkReset l) s = .next (trains l (sentOn l linkResetBytes (s.leaveUp l)))) ∧
    (p.state = .resetting → exec (.linkReset l) s = .next (trains l s)) ∧
    (p.state = .disabled ∨ p.state = .down ∨ p.state = .training → exec (.linkReset l) s = .next s) ∧
    (p.state = .up → exec (.signalLoss l) s = .next (goesDown l (lost.leaveUp l))) ∧
    (p.state = .training ∨ p.state = .resetting → exec (.signalLoss l) s = .next (goesDown l lost)) ∧
    (p.state = .disabled ∨ p.state = .down → exec (.signalLoss l) s = .next lost) ∧
    (p.state = .up → exec (.unknownKind l) s = .next (violates l .unknownKind s)) ∧
    (p.state ≠ .up → exec (.unknownKind l) s = .next s)

/-- The reset effects of a link that leaves UP: its queue, replies, credits, tags and notices are cleared, its entries end
without reply and drop their references, tags of ISSUED entries enter the quarantine with QUARANTINE set, its control
requests leave the in-band queue, and LINK_RESET is set; the bindings, the unbound-arrival set and every other link stay. -/
def Obligations.LeavingUpResetEffects : Prop :=
  ∀ (s : State) (l : LinkId), tagsHeldByIssued s →
    let mine := entriesWith s fun m _ y => decide (m = l) && decide (y ≠ .free)
    let dropped := dropAll ((requestsOf s mine).map (·.window)) s
    let p := s.ports[l]
    let resetEvents := dropped.events.raiseLink l .linkReset
    s.leaveUp l =
      { dropped with
        entries := s.entries.set l (Vector.replicate 8 .free)
        waiting := s.waiting.set l []
        fabric :=
          { s.fabric with
            tags := Vector.ofFn fun g =>
              match s.fabric.tags[g] with
              | .free => .free
              | .quarantined y => .quarantined y
              | .held m e =>
                if m = l then
                  match ((s.entries[m])[e]).request? with
                  | none => .held m e
                  | some r => .quarantined r.target
                else .held m e }
        ports := s.ports.set l
          { p with
            ingress := []
            dataCredits := 0
            unrepliedTags := Vector.replicate 16 false
            outData := []
            outCtl := []
            ctlCredits := 0
            unrepliedCtl := Vector.replicate 2 false
            noticeSet := Vector.replicate 15 false
            noticeCredit := .absent }
        engine := { s.engine with inband := s.engine.inband.filter fun q => decide (q.link ≠ l) }
        events :=
          if (∃ e : EntryNo, ((s.entries[l])[e]).isIssued = true) then resetEvents.raiseDev .quarantine
          else resetEvents }

/-- LINK_SET: every action in every link state, with the states before and after as its result (R172). -/
def Obligations.LinkSetActionTable : Prop :=
  ∀ (s : State) (c : Command), takes 0x17 c s →
    (3 < argField c.args 0 0 8 ∨ 2 < argField c.args 0 8 2 → refused .linkSet c .badArgument s) ∧
    (∀ l : LinkId, argField c.args 0 0 8 = l.val →
      let st := (s.ports[l]).state
      let action := argField c.args 0 8 2
      let gives (t : State) : Prop := exec .linkSet s = .next (commandDone c .ok
        [0#21 ++ BitVec.ofNat 3 (t.ports[l]).state.num ++ 0#5 ++ BitVec.ofNat 3 st.num] t)
      (action = 0 → st = .disabled → gives (goesDown l s)) ∧
      (action = 0 → st ≠ .disabled → gives s) ∧
      (action = 1 → st = .disabled → gives s) ∧
      (action = 1 → (st = .down ∨ st = .training ∨ st = .resetting) → gives (isDisabled l s)) ∧
      (action = 1 → st = .up → gives (isDisabled l (sentOn l linkResetBytes (s.leaveUp l)))) ∧
      (action = 2 → st = .up → gives (resets l s)) ∧
      (action = 2 → st ≠ .up → gives s))

/-- A NOTICE is sent exactly on an UP link with the notice credit HELD and streams pending: it names them all in two bytes,
empties the set and spends the credit. A NOTICE_ACK on an UP link returns an OUTSTANDING credit, and with the credit HELD is
the protocol error STRAY_ACK; on a link in another state it is discarded. That a NOTICE whose conditions do not hold changes
nothing is the model's choice (log 2). -/
def Obligations.NoticeSpendsCreditAndAckReturnsIt : Prop :=
  ∀ (s : State) (l : LinkId),
    let p := s.ports[l]
    let ready := p.state = .up ∧ p.noticeCredit = .held ∧ ∃ st : DataStream, p.noticeSet[st] = true
    (¬ready → exec (.notice l) s = .next s) ∧
    (ready → ∃ mask : BitVec 16,
      (mask.getLsbD 0 = false ∧ ∀ st : DataStream, mask.getLsbD (st.val + 1) = p.noticeSet[st]) ∧
      exec (.notice l) s = .next (sentOn l [0x15, 0, 0, 0, mask.extractLsb' 0 8, mask.extractLsb' 8 8]
        { s with
          ports := s.ports.set l
            { p with noticeSet := Vector.replicate 15 false, noticeCredit := .outstanding } })) ∧
    (p.state ≠ .up → exec (.noticeAck l) s = .next s) ∧
    (p.state = .up → p.noticeCredit = .outstanding → exec (.noticeAck l) s = .next
      { s with ports := s.ports.set l { p with noticeCredit := .held } }) ∧
    (p.state = .up → p.noticeCredit = .held → exec (.noticeAck l) s = .next (violates l .strayAck s))

/-- The sending of a data reply returns a data credit and frees its peer tag; the sending of a control reply returns a
control credit and frees its control tag; the message has the layout of R188. -/
def Obligations.SendingRepliesReturnsCredits : Prop :=
  ∀ (s : State) (l : LinkId), (s.ports[l]).state = .up →
    let p := s.ports[l]
    (∀ (r : DataReply) (pre post : List DataReply), p.outData = pre ++ r :: post → (∀ y ∈ pre, y.tag ≠ r.tag) →
      let head (kind code : Byte) : List Byte :=
        [kind, BitVec.ofNat 8 r.tag.val, BitVec.ofNat 8 (r.stream.val + 1), code]
      exec (.sendDataReply l r.tag) s = .next (sentOn l
        (match r.answer with
         | .done => head 0x11 0
         | .data bytes => head 0x12 0 ++ leBytes 2 bytes.length ++ bytes
         | .refused code => head 0x13 (BitVec.ofNat 8 code.num))
        { s with
          ports := s.ports.set l
            { p with
              outData := pre ++ post
              dataCredits := p.dataCredits + 1
              unrepliedTags := p.unrepliedTags.set r.tag false } })) ∧
    (∀ (r : CtlReply) (pre post : List CtlReply), p.outCtl = pre ++ r :: post → (∀ y ∈ pre, y.tag ≠ r.tag) →
      exec (.sendCtlReply l r.tag) s = .next (sentOn l
        ([0x14, BitVec.ofNat 8 r.tag.val, r.byte2, BitVec.ofNat 8 r.code.num] ++ r.body)
        { s with
          ports := s.ports.set l
            { p with
              outCtl := pre ++ post
              ctlCredits := p.ctlCredits + 1
              unrepliedCtl := p.unrepliedCtl.set r.tag false } }))

/-! ## What every step keeps -/

/-- Every step keeps the chain laws (R30, R37, R27), in the states in which a domain out of service is bound by no stream. -/
def Obligations.ChainLawsKeptByStep : Prop := keptByStep outOfServiceIsEmpty chainsSound

/-- Every step keeps the reference law (R8). -/
def Obligations.ReferenceLawKeptByStep : Prop := keptByStep (fun _ => True) referencesCounted

/-- Every step keeps the window record's laws: FREE slots cleared, permissions legal, budgets bounded (R1, R2, R11). -/
def Obligations.WindowRecordLawsKeptByStep : Prop :=
  keptByStep (fun _ => True) freeSlotsCleared ∧ keptByStep (fun _ => True) permissionsLegal ∧
  keptByStep (fun _ => True) budgetsBounded

/-- Every step keeps every window and every fence aligned to its size (R1, R27, R36). -/
def Obligations.AlignmentKeptByStep : Prop := keptByStep (fun _ => True) geometryAligned

/-- Every step keeps SELF windows inside their domain's fence (R36), in the states with sound chains. -/
def Obligations.FenceLawKeptByStep : Prop := keptByStep chainsSound selfWindowsFenced

/-- Every step keeps a domain out of service empty and unbound, and its fault record consistent (R28, R33, R34, R47). -/
def Obligations.DomainRecordLawsKeptByStep : Prop :=
  keptByStep (fun _ => True) outOfServiceIsEmpty ∧ keptByStep (fun _ => True) faultsConsistent

/-- Every step keeps the tracker's laws: a tag is held exactly by the ISSUED entry that names it, a waiting list holds
exactly its link's WAIT_TAG entries, and their targets are ONLINE (R92, R87, R90). -/
def Obligations.TrackerLawsKeptByStep : Prop :=
  keptByStep (fun _ => True) tagsHeldByIssued ∧ keptByStep (fun _ => True) waitingListsSound ∧
  keptByStep (fun _ => True) waitersTargetOnline

/-- Every step keeps a link that is not UP quiet, and timers and signals as its state says (R105, R158, R159, R160). -/
def Obligations.QuietLinkLawsKeptByStep : Prop :=
  keptByStep (fun _ => True) linksQuietUnlessUp ∧ keptByStep (fun _ => True) timersAndSignals

/-- Every step keeps the data credit law and the control credit law (R163, R141), in the states with quiet links. -/
def Obligations.CreditLawsKeptByStep : Prop :=
  keptByStep linksQuietUnlessUp dataCreditLaw ∧ keptByStep linksQuietUnlessUp ctlCreditLaw

/-- Every step keeps CMD_STATUS in agreement with the management slot and the timeout in its range (R132, R118). -/
def Obligations.CommandStatusLawKeptByStep : Prop := keptByStep (fun _ => True) statusMatchesSlot
end

