-- ==== Sys2Proof/Laws/State.lean ====
section
/-! SUPPORT. What each named update of State leaves in each field (one lemma a field and update, true by unfolding), what
each reader of one record answers, and what a reader answers after the update of the table it reads. -/

namespace Sys2Proof.Machine.State

/-! ## Readers -/

theorem window_eq (s : State) (i : SlotId) : s.window i = s.windows[i] := rfl
theorem domain_eq (s : State) (d : DomId) : s.domain d = s.domains[d] := rfl
theorem stream_eq (s : State) (l : LinkId) (st : DataStream) : s.stream l st = (s.bindings[l])[st] := rfl
theorem port_eq (s : State) (l : LinkId) : s.port l = s.ports[l] := rfl
theorem entry_eq (s : State) (l : LinkId) (e : EntryNo) : s.entry l e = (s.entries[l])[e] := rfl
theorem waitList_eq (s : State) (l : LinkId) : s.waitList l = s.waiting[l] := rfl
theorem tag_eq (s : State) (t : TagNo) : s.tag t = s.fabric.tags[t] := rfl
theorem target_eq (s : State) (t : TargetId) : s.target t = s.fabric.targets[t] := rfl

/-! ## The updated field, and every other field -/

@[simp] theorem setWindow_windows (i : SlotId) (w : Window) (s : State) : (s.setWindow i w).windows = s.windows.set i w := rfl
@[simp] theorem setWindow_domains (i : SlotId) (w : Window) (s : State) : (s.setWindow i w).domains = s.domains := rfl
@[simp] theorem setWindow_bindings (i : SlotId) (w : Window) (s : State) : (s.setWindow i w).bindings = s.bindings := rfl
@[simp] theorem setWindow_ports (i : SlotId) (w : Window) (s : State) : (s.setWindow i w).ports = s.ports := rfl
@[simp] theorem setWindow_entries (i : SlotId) (w : Window) (s : State) : (s.setWindow i w).entries = s.entries := rfl
@[simp] theorem setWindow_waiting (i : SlotId) (w : Window) (s : State) : (s.setWindow i w).waiting = s.waiting := rfl
@[simp] theorem setWindow_fabric (i : SlotId) (w : Window) (s : State) : (s.setWindow i w).fabric = s.fabric := rfl
@[simp] theorem setWindow_engine (i : SlotId) (w : Window) (s : State) : (s.setWindow i w).engine = s.engine := rfl
@[simp] theorem setWindow_mgmt (i : SlotId) (w : Window) (s : State) : (s.setWindow i w).mgmt = s.mgmt := rfl
@[simp] theorem setWindow_events (i : SlotId) (w : Window) (s : State) : (s.setWindow i w).events = s.events := rfl
@[simp] theorem setWindow_sent (i : SlotId) (w : Window) (s : State) : (s.setWindow i w).sent = s.sent := rfl
@[simp] theorem setWindow_fabricSent (i : SlotId) (w : Window) (s : State) : (s.setWindow i w).fabricSent = s.fabricSent := rfl
@[simp] theorem setWindow_now (i : SlotId) (w : Window) (s : State) : (s.setWindow i w).now = s.now := rfl
@[simp] theorem setWindow_pending (i : SlotId) (w : Window) (s : State) : (s.setWindow i w).pending = s.pending := rfl

@[simp] theorem setDomain_windows (d : DomId) (x : Domain) (s : State) : (s.setDomain d x).windows = s.windows := rfl
@[simp] theorem setDomain_domains (d : DomId) (x : Domain) (s : State) : (s.setDomain d x).domains = s.domains.set d x := rfl
@[simp] theorem setDomain_bindings (d : DomId) (x : Domain) (s : State) : (s.setDomain d x).bindings = s.bindings := rfl
@[simp] theorem setDomain_ports (d : DomId) (x : Domain) (s : State) : (s.setDomain d x).ports = s.ports := rfl
@[simp] theorem setDomain_entries (d : DomId) (x : Domain) (s : State) : (s.setDomain d x).entries = s.entries := rfl
@[simp] theorem setDomain_waiting (d : DomId) (x : Domain) (s : State) : (s.setDomain d x).waiting = s.waiting := rfl
@[simp] theorem setDomain_fabric (d : DomId) (x : Domain) (s : State) : (s.setDomain d x).fabric = s.fabric := rfl
@[simp] theorem setDomain_engine (d : DomId) (x : Domain) (s : State) : (s.setDomain d x).engine = s.engine := rfl
@[simp] theorem setDomain_mgmt (d : DomId) (x : Domain) (s : State) : (s.setDomain d x).mgmt = s.mgmt := rfl
@[simp] theorem setDomain_events (d : DomId) (x : Domain) (s : State) : (s.setDomain d x).events = s.events := rfl
@[simp] theorem setDomain_sent (d : DomId) (x : Domain) (s : State) : (s.setDomain d x).sent = s.sent := rfl
@[simp] theorem setDomain_fabricSent (d : DomId) (x : Domain) (s : State) : (s.setDomain d x).fabricSent = s.fabricSent := rfl
@[simp] theorem setDomain_now (d : DomId) (x : Domain) (s : State) : (s.setDomain d x).now = s.now := rfl
@[simp] theorem setDomain_pending (d : DomId) (x : Domain) (s : State) : (s.setDomain d x).pending = s.pending := rfl

@[simp] theorem setStream_windows (l : LinkId) (st : DataStream) (x : StreamEntry) (s : State) : (s.setStream l st x).windows = s.windows := rfl
@[simp] theorem setStream_domains (l : LinkId) (st : DataStream) (x : StreamEntry) (s : State) : (s.setStream l st x).domains = s.domains := rfl
@[simp] theorem setStream_bindings (l : LinkId) (st : DataStream) (x : StreamEntry) (s : State) : (s.setStream l st x).bindings = s.bindings.set l ((s.bindings[l]).set st x) := rfl
@[simp] theorem setStream_ports (l : LinkId) (st : DataStream) (x : StreamEntry) (s : State) : (s.setStream l st x).ports = s.ports := rfl
@[simp] theorem setStream_entries (l : LinkId) (st : DataStream) (x : StreamEntry) (s : State) : (s.setStream l st x).entries = s.entries := rfl
@[simp] theorem setStream_waiting (l : LinkId) (st : DataStream) (x : StreamEntry) (s : State) : (s.setStream l st x).waiting = s.waiting := rfl
@[simp] theorem setStream_fabric (l : LinkId) (st : DataStream) (x : StreamEntry) (s : State) : (s.setStream l st x).fabric = s.fabric := rfl
@[simp] theorem setStream_engine (l : LinkId) (st : DataStream) (x : StreamEntry) (s : State) : (s.setStream l st x).engine = s.engine := rfl
@[simp] theorem setStream_mgmt (l : LinkId) (st : DataStream) (x : StreamEntry) (s : State) : (s.setStream l st x).mgmt = s.mgmt := rfl
@[simp] theorem setStream_events (l : LinkId) (st : DataStream) (x : StreamEntry) (s : State) : (s.setStream l st x).events = s.events := rfl
@[simp] theorem setStream_sent (l : LinkId) (st : DataStream) (x : StreamEntry) (s : State) : (s.setStream l st x).sent = s.sent := rfl
@[simp] theorem setStream_fabricSent (l : LinkId) (st : DataStream) (x : StreamEntry) (s : State) : (s.setStream l st x).fabricSent = s.fabricSent := rfl
@[simp] theorem setStream_now (l : LinkId) (st : DataStream) (x : StreamEntry) (s : State) : (s.setStream l st x).now = s.now := rfl
@[simp] theorem setStream_pending (l : LinkId) (st : DataStream) (x : StreamEntry) (s : State) : (s.setStream l st x).pending = s.pending := rfl

@[simp] theorem setPort_windows (l : LinkId) (p : LinkPort) (s : State) : (s.setPort l p).windows = s.windows := rfl
@[simp] theorem setPort_domains (l : LinkId) (p : LinkPort) (s : State) : (s.setPort l p).domains = s.domains := rfl
@[simp] theorem setPort_bindings (l : LinkId) (p : LinkPort) (s : State) : (s.setPort l p).bindings = s.bindings := rfl
@[simp] theorem setPort_ports (l : LinkId) (p : LinkPort) (s : State) : (s.setPort l p).ports = s.ports.set l p := rfl
@[simp] theorem setPort_entries (l : LinkId) (p : LinkPort) (s : State) : (s.setPort l p).entries = s.entries := rfl
@[simp] theorem setPort_waiting (l : LinkId) (p : LinkPort) (s : State) : (s.setPort l p).waiting = s.waiting := rfl
@[simp] theorem setPort_fabric (l : LinkId) (p : LinkPort) (s : State) : (s.setPort l p).fabric = s.fabric := rfl
@[simp] theorem setPort_engine (l : LinkId) (p : LinkPort) (s : State) : (s.setPort l p).engine = s.engine := rfl
@[simp] theorem setPort_mgmt (l : LinkId) (p : LinkPort) (s : State) : (s.setPort l p).mgmt = s.mgmt := rfl
@[simp] theorem setPort_events (l : LinkId) (p : LinkPort) (s : State) : (s.setPort l p).events = s.events := rfl
@[simp] theorem setPort_sent (l : LinkId) (p : LinkPort) (s : State) : (s.setPort l p).sent = s.sent := rfl
@[simp] theorem setPort_fabricSent (l : LinkId) (p : LinkPort) (s : State) : (s.setPort l p).fabricSent = s.fabricSent := rfl
@[simp] theorem setPort_now (l : LinkId) (p : LinkPort) (s : State) : (s.setPort l p).now = s.now := rfl
@[simp] theorem setPort_pending (l : LinkId) (p : LinkPort) (s : State) : (s.setPort l p).pending = s.pending := rfl

@[simp] theorem setEntry_windows (l : LinkId) (e : EntryNo) (x : Entry) (s : State) : (s.setEntry l e x).windows = s.windows := rfl
@[simp] theorem setEntry_domains (l : LinkId) (e : EntryNo) (x : Entry) (s : State) : (s.setEntry l e x).domains = s.domains := rfl
@[simp] theorem setEntry_bindings (l : LinkId) (e : EntryNo) (x : Entry) (s : State) : (s.setEntry l e x).bindings = s.bindings := rfl
@[simp] theorem setEntry_ports (l : LinkId) (e : EntryNo) (x : Entry) (s : State) : (s.setEntry l e x).ports = s.ports := rfl
@[simp] theorem setEntry_entries (l : LinkId) (e : EntryNo) (x : Entry) (s : State) : (s.setEntry l e x).entries = s.entries.set l ((s.entries[l]).set e x) := rfl
@[simp] theorem setEntry_waiting (l : LinkId) (e : EntryNo) (x : Entry) (s : State) : (s.setEntry l e x).waiting = s.waiting := rfl
@[simp] theorem setEntry_fabric (l : LinkId) (e : EntryNo) (x : Entry) (s : State) : (s.setEntry l e x).fabric = s.fabric := rfl
@[simp] theorem setEntry_engine (l : LinkId) (e : EntryNo) (x : Entry) (s : State) : (s.setEntry l e x).engine = s.engine := rfl
@[simp] theorem setEntry_mgmt (l : LinkId) (e : EntryNo) (x : Entry) (s : State) : (s.setEntry l e x).mgmt = s.mgmt := rfl
@[simp] theorem setEntry_events (l : LinkId) (e : EntryNo) (x : Entry) (s : State) : (s.setEntry l e x).events = s.events := rfl
@[simp] theorem setEntry_sent (l : LinkId) (e : EntryNo) (x : Entry) (s : State) : (s.setEntry l e x).sent = s.sent := rfl
@[simp] theorem setEntry_fabricSent (l : LinkId) (e : EntryNo) (x : Entry) (s : State) : (s.setEntry l e x).fabricSent = s.fabricSent := rfl
@[simp] theorem setEntry_now (l : LinkId) (e : EntryNo) (x : Entry) (s : State) : (s.setEntry l e x).now = s.now := rfl
@[simp] theorem setEntry_pending (l : LinkId) (e : EntryNo) (x : Entry) (s : State) : (s.setEntry l e x).pending = s.pending := rfl

@[simp] theorem setWaiting_windows (l : LinkId) (es : List EntryNo) (s : State) : (s.setWaiting l es).windows = s.windows := rfl
@[simp] theorem setWaiting_domains (l : LinkId) (es : List EntryNo) (s : State) : (s.setWaiting l es).domains = s.domains := rfl
@[simp] theorem setWaiting_bindings (l : LinkId) (es : List EntryNo) (s : State) : (s.setWaiting l es).bindings = s.bindings := rfl
@[simp] theorem setWaiting_ports (l : LinkId) (es : List EntryNo) (s : State) : (s.setWaiting l es).ports = s.ports := rfl
@[simp] theorem setWaiting_entries (l : LinkId) (es : List EntryNo) (s : State) : (s.setWaiting l es).entries = s.entries := rfl
@[simp] theorem setWaiting_waiting (l : LinkId) (es : List EntryNo) (s : State) : (s.setWaiting l es).waiting = s.waiting.set l es := rfl
@[simp] theorem setWaiting_fabric (l : LinkId) (es : List EntryNo) (s : State) : (s.setWaiting l es).fabric = s.fabric := rfl
@[simp] theorem setWaiting_engine (l : LinkId) (es : List EntryNo) (s : State) : (s.setWaiting l es).engine = s.engine := rfl
@[simp] theorem setWaiting_mgmt (l : LinkId) (es : List EntryNo) (s : State) : (s.setWaiting l es).mgmt = s.mgmt := rfl
@[simp] theorem setWaiting_events (l : LinkId) (es : List EntryNo) (s : State) : (s.setWaiting l es).events = s.events := rfl
@[simp] theorem setWaiting_sent (l : LinkId) (es : List EntryNo) (s : State) : (s.setWaiting l es).sent = s.sent := rfl
@[simp] theorem setWaiting_fabricSent (l : LinkId) (es : List EntryNo) (s : State) : (s.setWaiting l es).fabricSent = s.fabricSent := rfl
@[simp] theorem setWaiting_now (l : LinkId) (es : List EntryNo) (s : State) : (s.setWaiting l es).now = s.now := rfl
@[simp] theorem setWaiting_pending (l : LinkId) (es : List EntryNo) (s : State) : (s.setWaiting l es).pending = s.pending := rfl

@[simp] theorem setFabric_windows (f : Fabric) (s : State) : (s.setFabric f).windows = s.windows := rfl
@[simp] theorem setFabric_domains (f : Fabric) (s : State) : (s.setFabric f).domains = s.domains := rfl
@[simp] theorem setFabric_bindings (f : Fabric) (s : State) : (s.setFabric f).bindings = s.bindings := rfl
@[simp] theorem setFabric_ports (f : Fabric) (s : State) : (s.setFabric f).ports = s.ports := rfl
@[simp] theorem setFabric_entries (f : Fabric) (s : State) : (s.setFabric f).entries = s.entries := rfl
@[simp] theorem setFabric_waiting (f : Fabric) (s : State) : (s.setFabric f).waiting = s.waiting := rfl
@[simp] theorem setFabric_fabric (f : Fabric) (s : State) : (s.setFabric f).fabric = f := rfl
@[simp] theorem setFabric_engine (f : Fabric) (s : State) : (s.setFabric f).engine = s.engine := rfl
@[simp] theorem setFabric_mgmt (f : Fabric) (s : State) : (s.setFabric f).mgmt = s.mgmt := rfl
@[simp] theorem setFabric_events (f : Fabric) (s : State) : (s.setFabric f).events = s.events := rfl
@[simp] theorem setFabric_sent (f : Fabric) (s : State) : (s.setFabric f).sent = s.sent := rfl
@[simp] theorem setFabric_fabricSent (f : Fabric) (s : State) : (s.setFabric f).fabricSent = s.fabricSent := rfl
@[simp] theorem setFabric_now (f : Fabric) (s : State) : (s.setFabric f).now = s.now := rfl
@[simp] theorem setFabric_pending (f : Fabric) (s : State) : (s.setFabric f).pending = s.pending := rfl

@[simp] theorem setTag_windows (t : TagNo) (c : TagCond) (s : State) : (s.setTag t c).windows = s.windows := rfl
@[simp] theorem setTag_domains (t : TagNo) (c : TagCond) (s : State) : (s.setTag t c).domains = s.domains := rfl
@[simp] theorem setTag_bindings (t : TagNo) (c : TagCond) (s : State) : (s.setTag t c).bindings = s.bindings := rfl
@[simp] theorem setTag_ports (t : TagNo) (c : TagCond) (s : State) : (s.setTag t c).ports = s.ports := rfl
@[simp] theorem setTag_entries (t : TagNo) (c : TagCond) (s : State) : (s.setTag t c).entries = s.entries := rfl
@[simp] theorem setTag_waiting (t : TagNo) (c : TagCond) (s : State) : (s.setTag t c).waiting = s.waiting := rfl
@[simp] theorem setTag_fabric (t : TagNo) (c : TagCond) (s : State) : (s.setTag t c).fabric = { s.fabric with tags := s.fabric.tags.set t c } := rfl
@[simp] theorem setTag_engine (t : TagNo) (c : TagCond) (s : State) : (s.setTag t c).engine = s.engine := rfl
@[simp] theorem setTag_mgmt (t : TagNo) (c : TagCond) (s : State) : (s.setTag t c).mgmt = s.mgmt := rfl
@[simp] theorem setTag_events (t : TagNo) (c : TagCond) (s : State) : (s.setTag t c).events = s.events := rfl
@[simp] theorem setTag_sent (t : TagNo) (c : TagCond) (s : State) : (s.setTag t c).sent = s.sent := rfl
@[simp] theorem setTag_fabricSent (t : TagNo) (c : TagCond) (s : State) : (s.setTag t c).fabricSent = s.fabricSent := rfl
@[simp] theorem setTag_now (t : TagNo) (c : TagCond) (s : State) : (s.setTag t c).now = s.now := rfl
@[simp] theorem setTag_pending (t : TagNo) (c : TagCond) (s : State) : (s.setTag t c).pending = s.pending := rfl

@[simp] theorem setTarget_windows (t : TargetId) (x : TargetState) (s : State) : (s.setTarget t x).windows = s.windows := rfl
@[simp] theorem setTarget_domains (t : TargetId) (x : TargetState) (s : State) : (s.setTarget t x).domains = s.domains := rfl
@[simp] theorem setTarget_bindings (t : TargetId) (x : TargetState) (s : State) : (s.setTarget t x).bindings = s.bindings := rfl
@[simp] theorem setTarget_ports (t : TargetId) (x : TargetState) (s : State) : (s.setTarget t x).ports = s.ports := rfl
@[simp] theorem setTarget_entries (t : TargetId) (x : TargetState) (s : State) : (s.setTarget t x).entries = s.entries := rfl
@[simp] theorem setTarget_waiting (t : TargetId) (x : TargetState) (s : State) : (s.setTarget t x).waiting = s.waiting := rfl
@[simp] theorem setTarget_fabric (t : TargetId) (x : TargetState) (s : State) : (s.setTarget t x).fabric = { s.fabric with targets := s.fabric.targets.set t x } := rfl
@[simp] theorem setTarget_engine (t : TargetId) (x : TargetState) (s : State) : (s.setTarget t x).engine = s.engine := rfl
@[simp] theorem setTarget_mgmt (t : TargetId) (x : TargetState) (s : State) : (s.setTarget t x).mgmt = s.mgmt := rfl
@[simp] theorem setTarget_events (t : TargetId) (x : TargetState) (s : State) : (s.setTarget t x).events = s.events := rfl
@[simp] theorem setTarget_sent (t : TargetId) (x : TargetState) (s : State) : (s.setTarget t x).sent = s.sent := rfl
@[simp] theorem setTarget_fabricSent (t : TargetId) (x : TargetState) (s : State) : (s.setTarget t x).fabricSent = s.fabricSent := rfl
@[simp] theorem setTarget_now (t : TargetId) (x : TargetState) (s : State) : (s.setTarget t x).now = s.now := rfl
@[simp] theorem setTarget_pending (t : TargetId) (x : TargetState) (s : State) : (s.setTarget t x).pending = s.pending := rfl

@[simp] theorem setEngine_windows (e : Engine) (s : State) : (s.setEngine e).windows = s.windows := rfl
@[simp] theorem setEngine_domains (e : Engine) (s : State) : (s.setEngine e).domains = s.domains := rfl
@[simp] theorem setEngine_bindings (e : Engine) (s : State) : (s.setEngine e).bindings = s.bindings := rfl
@[simp] theorem setEngine_ports (e : Engine) (s : State) : (s.setEngine e).ports = s.ports := rfl
@[simp] theorem setEngine_entries (e : Engine) (s : State) : (s.setEngine e).entries = s.entries := rfl
@[simp] theorem setEngine_waiting (e : Engine) (s : State) : (s.setEngine e).waiting = s.waiting := rfl
@[simp] theorem setEngine_fabric (e : Engine) (s : State) : (s.setEngine e).fabric = s.fabric := rfl
@[simp] theorem setEngine_engine (e : Engine) (s : State) : (s.setEngine e).engine = e := rfl
@[simp] theorem setEngine_mgmt (e : Engine) (s : State) : (s.setEngine e).mgmt = s.mgmt := rfl
@[simp] theorem setEngine_events (e : Engine) (s : State) : (s.setEngine e).events = s.events := rfl
@[simp] theorem setEngine_sent (e : Engine) (s : State) : (s.setEngine e).sent = s.sent := rfl
@[simp] theorem setEngine_fabricSent (e : Engine) (s : State) : (s.setEngine e).fabricSent = s.fabricSent := rfl
@[simp] theorem setEngine_now (e : Engine) (s : State) : (s.setEngine e).now = s.now := rfl
@[simp] theorem setEngine_pending (e : Engine) (s : State) : (s.setEngine e).pending = s.pending := rfl

@[simp] theorem setMgmt_windows (m : MgmtPort) (s : State) : (s.setMgmt m).windows = s.windows := rfl
@[simp] theorem setMgmt_domains (m : MgmtPort) (s : State) : (s.setMgmt m).domains = s.domains := rfl
@[simp] theorem setMgmt_bindings (m : MgmtPort) (s : State) : (s.setMgmt m).bindings = s.bindings := rfl
@[simp] theorem setMgmt_ports (m : MgmtPort) (s : State) : (s.setMgmt m).ports = s.ports := rfl
@[simp] theorem setMgmt_entries (m : MgmtPort) (s : State) : (s.setMgmt m).entries = s.entries := rfl
@[simp] theorem setMgmt_waiting (m : MgmtPort) (s : State) : (s.setMgmt m).waiting = s.waiting := rfl
@[simp] theorem setMgmt_fabric (m : MgmtPort) (s : State) : (s.setMgmt m).fabric = s.fabric := rfl
@[simp] theorem setMgmt_engine (m : MgmtPort) (s : State) : (s.setMgmt m).engine = s.engine := rfl
@[simp] theorem setMgmt_mgmt (m : MgmtPort) (s : State) : (s.setMgmt m).mgmt = m := rfl
@[simp] theorem setMgmt_events (m : MgmtPort) (s : State) : (s.setMgmt m).events = s.events := rfl
@[simp] theorem setMgmt_sent (m : MgmtPort) (s : State) : (s.setMgmt m).sent = s.sent := rfl
@[simp] theorem setMgmt_fabricSent (m : MgmtPort) (s : State) : (s.setMgmt m).fabricSent = s.fabricSent := rfl
@[simp] theorem setMgmt_now (m : MgmtPort) (s : State) : (s.setMgmt m).now = s.now := rfl
@[simp] theorem setMgmt_pending (m : MgmtPort) (s : State) : (s.setMgmt m).pending = s.pending := rfl

@[simp] theorem setEvents_windows (u : EventUnit) (s : State) : (s.setEvents u).windows = s.windows := rfl
@[simp] theorem setEvents_domains (u : EventUnit) (s : State) : (s.setEvents u).domains = s.domains := rfl
@[simp] theorem setEvents_bindings (u : EventUnit) (s : State) : (s.setEvents u).bindings = s.bindings := rfl
@[simp] theorem setEvents_ports (u : EventUnit) (s : State) : (s.setEvents u).ports = s.ports := rfl
@[simp] theorem setEvents_entries (u : EventUnit) (s : State) : (s.setEvents u).entries = s.entries := rfl
@[simp] theorem setEvents_waiting (u : EventUnit) (s : State) : (s.setEvents u).waiting = s.waiting := rfl
@[simp] theorem setEvents_fabric (u : EventUnit) (s : State) : (s.setEvents u).fabric = s.fabric := rfl
@[simp] theorem setEvents_engine (u : EventUnit) (s : State) : (s.setEvents u).engine = s.engine := rfl
@[simp] theorem setEvents_mgmt (u : EventUnit) (s : State) : (s.setEvents u).mgmt = s.mgmt := rfl
@[simp] theorem setEvents_events (u : EventUnit) (s : State) : (s.setEvents u).events = u := rfl
@[simp] theorem setEvents_sent (u : EventUnit) (s : State) : (s.setEvents u).sent = s.sent := rfl
@[simp] theorem setEvents_fabricSent (u : EventUnit) (s : State) : (s.setEvents u).fabricSent = s.fabricSent := rfl
@[simp] theorem setEvents_now (u : EventUnit) (s : State) : (s.setEvents u).now = s.now := rfl
@[simp] theorem setEvents_pending (u : EventUnit) (s : State) : (s.setEvents u).pending = s.pending := rfl

@[simp] theorem setNow_windows (n : Nat) (s : State) : (s.setNow n).windows = s.windows := rfl
@[simp] theorem setNow_domains (n : Nat) (s : State) : (s.setNow n).domains = s.domains := rfl
@[simp] theorem setNow_bindings (n : Nat) (s : State) : (s.setNow n).bindings = s.bindings := rfl
@[simp] theorem setNow_ports (n : Nat) (s : State) : (s.setNow n).ports = s.ports := rfl
@[simp] theorem setNow_entries (n : Nat) (s : State) : (s.setNow n).entries = s.entries := rfl
@[simp] theorem setNow_waiting (n : Nat) (s : State) : (s.setNow n).waiting = s.waiting := rfl
@[simp] theorem setNow_fabric (n : Nat) (s : State) : (s.setNow n).fabric = s.fabric := rfl
@[simp] theorem setNow_engine (n : Nat) (s : State) : (s.setNow n).engine = s.engine := rfl
@[simp] theorem setNow_mgmt (n : Nat) (s : State) : (s.setNow n).mgmt = s.mgmt := rfl
@[simp] theorem setNow_events (n : Nat) (s : State) : (s.setNow n).events = s.events := rfl
@[simp] theorem setNow_sent (n : Nat) (s : State) : (s.setNow n).sent = s.sent := rfl
@[simp] theorem setNow_fabricSent (n : Nat) (s : State) : (s.setNow n).fabricSent = s.fabricSent := rfl
@[simp] theorem setNow_now (n : Nat) (s : State) : (s.setNow n).now = n := rfl
@[simp] theorem setNow_pending (n : Nat) (s : State) : (s.setNow n).pending = s.pending := rfl

@[simp] theorem modDomain_windows (d : DomId) (f : Domain → Domain) (s : State) : (s.modDomain d f).windows = s.windows := rfl
@[simp] theorem modDomain_domains (d : DomId) (f : Domain → Domain) (s : State) : (s.modDomain d f).domains = s.domains.set d (f (s.domain d)) := rfl
@[simp] theorem modDomain_bindings (d : DomId) (f : Domain → Domain) (s : State) : (s.modDomain d f).bindings = s.bindings := rfl
@[simp] theorem modDomain_ports (d : DomId) (f : Domain → Domain) (s : State) : (s.modDomain d f).ports = s.ports := rfl
@[simp] theorem modDomain_entries (d : DomId) (f : Domain → Domain) (s : State) : (s.modDomain d f).entries = s.entries := rfl
@[simp] theorem modDomain_waiting (d : DomId) (f : Domain → Domain) (s : State) : (s.modDomain d f).waiting = s.waiting := rfl
@[simp] theorem modDomain_fabric (d : DomId) (f : Domain → Domain) (s : State) : (s.modDomain d f).fabric = s.fabric := rfl
@[simp] theorem modDomain_engine (d : DomId) (f : Domain → Domain) (s : State) : (s.modDomain d f).engine = s.engine := rfl
@[simp] theorem modDomain_mgmt (d : DomId) (f : Domain → Domain) (s : State) : (s.modDomain d f).mgmt = s.mgmt := rfl
@[simp] theorem modDomain_events (d : DomId) (f : Domain → Domain) (s : State) : (s.modDomain d f).events = s.events := rfl
@[simp] theorem modDomain_sent (d : DomId) (f : Domain → Domain) (s : State) : (s.modDomain d f).sent = s.sent := rfl
@[simp] theorem modDomain_fabricSent (d : DomId) (f : Domain → Domain) (s : State) : (s.modDomain d f).fabricSent = s.fabricSent := rfl
@[simp] theorem modDomain_now (d : DomId) (f : Domain → Domain) (s : State) : (s.modDomain d f).now = s.now := rfl
@[simp] theorem modDomain_pending (d : DomId) (f : Domain → Domain) (s : State) : (s.modDomain d f).pending = s.pending := rfl

@[simp] theorem modPort_windows (l : LinkId) (f : LinkPort → LinkPort) (s : State) : (s.modPort l f).windows = s.windows := rfl
@[simp] theorem modPort_domains (l : LinkId) (f : LinkPort → LinkPort) (s : State) : (s.modPort l f).domains = s.domains := rfl
@[simp] theorem modPort_bindings (l : LinkId) (f : LinkPort → LinkPort) (s : State) : (s.modPort l f).bindings = s.bindings := rfl
@[simp] theorem modPort_ports (l : LinkId) (f : LinkPort → LinkPort) (s : State) : (s.modPort l f).ports = s.ports.set l (f (s.port l)) := rfl
@[simp] theorem modPort_entries (l : LinkId) (f : LinkPort → LinkPort) (s : State) : (s.modPort l f).entries = s.entries := rfl
@[simp] theorem modPort_waiting (l : LinkId) (f : LinkPort → LinkPort) (s : State) : (s.modPort l f).waiting = s.waiting := rfl
@[simp] theorem modPort_fabric (l : LinkId) (f : LinkPort → LinkPort) (s : State) : (s.modPort l f).fabric = s.fabric := rfl
@[simp] theorem modPort_engine (l : LinkId) (f : LinkPort → LinkPort) (s : State) : (s.modPort l f).engine = s.engine := rfl
@[simp] theorem modPort_mgmt (l : LinkId) (f : LinkPort → LinkPort) (s : State) : (s.modPort l f).mgmt = s.mgmt := rfl
@[simp] theorem modPort_events (l : LinkId) (f : LinkPort → LinkPort) (s : State) : (s.modPort l f).events = s.events := rfl
@[simp] theorem modPort_sent (l : LinkId) (f : LinkPort → LinkPort) (s : State) : (s.modPort l f).sent = s.sent := rfl
@[simp] theorem modPort_fabricSent (l : LinkId) (f : LinkPort → LinkPort) (s : State) : (s.modPort l f).fabricSent = s.fabricSent := rfl
@[simp] theorem modPort_now (l : LinkId) (f : LinkPort → LinkPort) (s : State) : (s.modPort l f).now = s.now := rfl
@[simp] theorem modPort_pending (l : LinkId) (f : LinkPort → LinkPort) (s : State) : (s.modPort l f).pending = s.pending := rfl

@[simp] theorem raiseDev_windows (e : DevEvent) (s : State) : (s.raiseDev e).windows = s.windows := rfl
@[simp] theorem raiseDev_domains (e : DevEvent) (s : State) : (s.raiseDev e).domains = s.domains := rfl
@[simp] theorem raiseDev_bindings (e : DevEvent) (s : State) : (s.raiseDev e).bindings = s.bindings := rfl
@[simp] theorem raiseDev_ports (e : DevEvent) (s : State) : (s.raiseDev e).ports = s.ports := rfl
@[simp] theorem raiseDev_entries (e : DevEvent) (s : State) : (s.raiseDev e).entries = s.entries := rfl
@[simp] theorem raiseDev_waiting (e : DevEvent) (s : State) : (s.raiseDev e).waiting = s.waiting := rfl
@[simp] theorem raiseDev_fabric (e : DevEvent) (s : State) : (s.raiseDev e).fabric = s.fabric := rfl
@[simp] theorem raiseDev_engine (e : DevEvent) (s : State) : (s.raiseDev e).engine = s.engine := rfl
@[simp] theorem raiseDev_mgmt (e : DevEvent) (s : State) : (s.raiseDev e).mgmt = s.mgmt := rfl
@[simp] theorem raiseDev_events (e : DevEvent) (s : State) : (s.raiseDev e).events = s.events.raiseDev e := rfl
@[simp] theorem raiseDev_sent (e : DevEvent) (s : State) : (s.raiseDev e).sent = s.sent := rfl
@[simp] theorem raiseDev_fabricSent (e : DevEvent) (s : State) : (s.raiseDev e).fabricSent = s.fabricSent := rfl
@[simp] theorem raiseDev_now (e : DevEvent) (s : State) : (s.raiseDev e).now = s.now := rfl
@[simp] theorem raiseDev_pending (e : DevEvent) (s : State) : (s.raiseDev e).pending = s.pending := rfl

@[simp] theorem raiseLink_windows (l : LinkId) (e : LinkEvent) (s : State) : (s.raiseLink l e).windows = s.windows := rfl
@[simp] theorem raiseLink_domains (l : LinkId) (e : LinkEvent) (s : State) : (s.raiseLink l e).domains = s.domains := rfl
@[simp] theorem raiseLink_bindings (l : LinkId) (e : LinkEvent) (s : State) : (s.raiseLink l e).bindings = s.bindings := rfl
@[simp] theorem raiseLink_ports (l : LinkId) (e : LinkEvent) (s : State) : (s.raiseLink l e).ports = s.ports := rfl
@[simp] theorem raiseLink_entries (l : LinkId) (e : LinkEvent) (s : State) : (s.raiseLink l e).entries = s.entries := rfl
@[simp] theorem raiseLink_waiting (l : LinkId) (e : LinkEvent) (s : State) : (s.raiseLink l e).waiting = s.waiting := rfl
@[simp] theorem raiseLink_fabric (l : LinkId) (e : LinkEvent) (s : State) : (s.raiseLink l e).fabric = s.fabric := rfl
@[simp] theorem raiseLink_engine (l : LinkId) (e : LinkEvent) (s : State) : (s.raiseLink l e).engine = s.engine := rfl
@[simp] theorem raiseLink_mgmt (l : LinkId) (e : LinkEvent) (s : State) : (s.raiseLink l e).mgmt = s.mgmt := rfl
@[simp] theorem raiseLink_events (l : LinkId) (e : LinkEvent) (s : State) : (s.raiseLink l e).events = s.events.raiseLink l e := rfl
@[simp] theorem raiseLink_sent (l : LinkId) (e : LinkEvent) (s : State) : (s.raiseLink l e).sent = s.sent := rfl
@[simp] theorem raiseLink_fabricSent (l : LinkId) (e : LinkEvent) (s : State) : (s.raiseLink l e).fabricSent = s.fabricSent := rfl
@[simp] theorem raiseLink_now (l : LinkId) (e : LinkEvent) (s : State) : (s.raiseLink l e).now = s.now := rfl
@[simp] theorem raiseLink_pending (l : LinkId) (e : LinkEvent) (s : State) : (s.raiseLink l e).pending = s.pending := rfl

@[simp] theorem raiseDom_windows (d : DomId) (e : DomEvent) (s : State) : (s.raiseDom d e).windows = s.windows := rfl
@[simp] theorem raiseDom_domains (d : DomId) (e : DomEvent) (s : State) : (s.raiseDom d e).domains = s.domains := rfl
@[simp] theorem raiseDom_bindings (d : DomId) (e : DomEvent) (s : State) : (s.raiseDom d e).bindings = s.bindings := rfl
@[simp] theorem raiseDom_ports (d : DomId) (e : DomEvent) (s : State) : (s.raiseDom d e).ports = s.ports := rfl
@[simp] theorem raiseDom_entries (d : DomId) (e : DomEvent) (s : State) : (s.raiseDom d e).entries = s.entries := rfl
@[simp] theorem raiseDom_waiting (d : DomId) (e : DomEvent) (s : State) : (s.raiseDom d e).waiting = s.waiting := rfl
@[simp] theorem raiseDom_fabric (d : DomId) (e : DomEvent) (s : State) : (s.raiseDom d e).fabric = s.fabric := rfl
@[simp] theorem raiseDom_engine (d : DomId) (e : DomEvent) (s : State) : (s.raiseDom d e).engine = s.engine := rfl
@[simp] theorem raiseDom_mgmt (d : DomId) (e : DomEvent) (s : State) : (s.raiseDom d e).mgmt = s.mgmt := rfl
@[simp] theorem raiseDom_events (d : DomId) (e : DomEvent) (s : State) : (s.raiseDom d e).events = s.events.raiseDom d e := rfl
@[simp] theorem raiseDom_sent (d : DomId) (e : DomEvent) (s : State) : (s.raiseDom d e).sent = s.sent := rfl
@[simp] theorem raiseDom_fabricSent (d : DomId) (e : DomEvent) (s : State) : (s.raiseDom d e).fabricSent = s.fabricSent := rfl
@[simp] theorem raiseDom_now (d : DomId) (e : DomEvent) (s : State) : (s.raiseDom d e).now = s.now := rfl
@[simp] theorem raiseDom_pending (d : DomId) (e : DomEvent) (s : State) : (s.raiseDom d e).pending = s.pending := rfl

@[simp] theorem send_windows (l : LinkId) (m : LinkMessage) (s : State) : (s.send l m).windows = s.windows := rfl
@[simp] theorem send_domains (l : LinkId) (m : LinkMessage) (s : State) : (s.send l m).domains = s.domains := rfl
@[simp] theorem send_bindings (l : LinkId) (m : LinkMessage) (s : State) : (s.send l m).bindings = s.bindings := rfl
@[simp] theorem send_ports (l : LinkId) (m : LinkMessage) (s : State) : (s.send l m).ports = s.ports := rfl
@[simp] theorem send_entries (l : LinkId) (m : LinkMessage) (s : State) : (s.send l m).entries = s.entries := rfl
@[simp] theorem send_waiting (l : LinkId) (m : LinkMessage) (s : State) : (s.send l m).waiting = s.waiting := rfl
@[simp] theorem send_fabric (l : LinkId) (m : LinkMessage) (s : State) : (s.send l m).fabric = s.fabric := rfl
@[simp] theorem send_engine (l : LinkId) (m : LinkMessage) (s : State) : (s.send l m).engine = s.engine := rfl
@[simp] theorem send_mgmt (l : LinkId) (m : LinkMessage) (s : State) : (s.send l m).mgmt = s.mgmt := rfl
@[simp] theorem send_events (l : LinkId) (m : LinkMessage) (s : State) : (s.send l m).events = s.events := rfl
@[simp] theorem send_sent (l : LinkId) (m : LinkMessage) (s : State) : (s.send l m).sent = s.sent ++ [(l, m.bytes)] := rfl
@[simp] theorem send_fabricSent (l : LinkId) (m : LinkMessage) (s : State) : (s.send l m).fabricSent = s.fabricSent := rfl
@[simp] theorem send_now (l : LinkId) (m : LinkMessage) (s : State) : (s.send l m).now = s.now := rfl
@[simp] theorem send_pending (l : LinkId) (m : LinkMessage) (s : State) : (s.send l m).pending = s.pending := rfl

@[simp] theorem sendFabric_windows (r : FabricRequest) (s : State) : (s.sendFabric r).windows = s.windows := rfl
@[simp] theorem sendFabric_domains (r : FabricRequest) (s : State) : (s.sendFabric r).domains = s.domains := rfl
@[simp] theorem sendFabric_bindings (r : FabricRequest) (s : State) : (s.sendFabric r).bindings = s.bindings := rfl
@[simp] theorem sendFabric_ports (r : FabricRequest) (s : State) : (s.sendFabric r).ports = s.ports := rfl
@[simp] theorem sendFabric_entries (r : FabricRequest) (s : State) : (s.sendFabric r).entries = s.entries := rfl
@[simp] theorem sendFabric_waiting (r : FabricRequest) (s : State) : (s.sendFabric r).waiting = s.waiting := rfl
@[simp] theorem sendFabric_fabric (r : FabricRequest) (s : State) : (s.sendFabric r).fabric = s.fabric := rfl
@[simp] theorem sendFabric_engine (r : FabricRequest) (s : State) : (s.sendFabric r).engine = s.engine := rfl
@[simp] theorem sendFabric_mgmt (r : FabricRequest) (s : State) : (s.sendFabric r).mgmt = s.mgmt := rfl
@[simp] theorem sendFabric_events (r : FabricRequest) (s : State) : (s.sendFabric r).events = s.events := rfl
@[simp] theorem sendFabric_sent (r : FabricRequest) (s : State) : (s.sendFabric r).sent = s.sent := rfl
@[simp] theorem sendFabric_fabricSent (r : FabricRequest) (s : State) : (s.sendFabric r).fabricSent = s.fabricSent ++ [r] := rfl
@[simp] theorem sendFabric_now (r : FabricRequest) (s : State) : (s.sendFabric r).now = s.now := rfl
@[simp] theorem sendFabric_pending (r : FabricRequest) (s : State) : (s.sendFabric r).pending = s.pending := rfl

@[simp] theorem handData_windows (l : LinkId) (r : DataReply) (s : State) : (s.handData l r).windows = s.windows := rfl
@[simp] theorem handData_domains (l : LinkId) (r : DataReply) (s : State) : (s.handData l r).domains = s.domains := rfl
@[simp] theorem handData_bindings (l : LinkId) (r : DataReply) (s : State) : (s.handData l r).bindings = s.bindings := rfl
@[simp] theorem handData_ports (l : LinkId) (r : DataReply) (s : State) : (s.handData l r).ports = s.ports.set l { s.port l with outData := (s.port l).outData ++ [r] } := rfl
@[simp] theorem handData_entries (l : LinkId) (r : DataReply) (s : State) : (s.handData l r).entries = s.entries := rfl
@[simp] theorem handData_waiting (l : LinkId) (r : DataReply) (s : State) : (s.handData l r).waiting = s.waiting := rfl
@[simp] theorem handData_fabric (l : LinkId) (r : DataReply) (s : State) : (s.handData l r).fabric = s.fabric := rfl
@[simp] theorem handData_engine (l : LinkId) (r : DataReply) (s : State) : (s.handData l r).engine = s.engine := rfl
@[simp] theorem handData_mgmt (l : LinkId) (r : DataReply) (s : State) : (s.handData l r).mgmt = s.mgmt := rfl
@[simp] theorem handData_events (l : LinkId) (r : DataReply) (s : State) : (s.handData l r).events = s.events := rfl
@[simp] theorem handData_sent (l : LinkId) (r : DataReply) (s : State) : (s.handData l r).sent = s.sent := rfl
@[simp] theorem handData_fabricSent (l : LinkId) (r : DataReply) (s : State) : (s.handData l r).fabricSent = s.fabricSent := rfl
@[simp] theorem handData_now (l : LinkId) (r : DataReply) (s : State) : (s.handData l r).now = s.now := rfl
@[simp] theorem handData_pending (l : LinkId) (r : DataReply) (s : State) : (s.handData l r).pending = s.pending := rfl

@[simp] theorem handCtl_windows (l : LinkId) (r : CtlReply) (s : State) : (s.handCtl l r).windows = s.windows := rfl
@[simp] theorem handCtl_domains (l : LinkId) (r : CtlReply) (s : State) : (s.handCtl l r).domains = s.domains := rfl
@[simp] theorem handCtl_bindings (l : LinkId) (r : CtlReply) (s : State) : (s.handCtl l r).bindings = s.bindings := rfl
@[simp] theorem handCtl_ports (l : LinkId) (r : CtlReply) (s : State) : (s.handCtl l r).ports = s.ports.set l { s.port l with outCtl := (s.port l).outCtl ++ [r] } := rfl
@[simp] theorem handCtl_entries (l : LinkId) (r : CtlReply) (s : State) : (s.handCtl l r).entries = s.entries := rfl
@[simp] theorem handCtl_waiting (l : LinkId) (r : CtlReply) (s : State) : (s.handCtl l r).waiting = s.waiting := rfl
@[simp] theorem handCtl_fabric (l : LinkId) (r : CtlReply) (s : State) : (s.handCtl l r).fabric = s.fabric := rfl
@[simp] theorem handCtl_engine (l : LinkId) (r : CtlReply) (s : State) : (s.handCtl l r).engine = s.engine := rfl
@[simp] theorem handCtl_mgmt (l : LinkId) (r : CtlReply) (s : State) : (s.handCtl l r).mgmt = s.mgmt := rfl
@[simp] theorem handCtl_events (l : LinkId) (r : CtlReply) (s : State) : (s.handCtl l r).events = s.events := rfl
@[simp] theorem handCtl_sent (l : LinkId) (r : CtlReply) (s : State) : (s.handCtl l r).sent = s.sent := rfl
@[simp] theorem handCtl_fabricSent (l : LinkId) (r : CtlReply) (s : State) : (s.handCtl l r).fabricSent = s.fabricSent := rfl
@[simp] theorem handCtl_now (l : LinkId) (r : CtlReply) (s : State) : (s.handCtl l r).now = s.now := rfl
@[simp] theorem handCtl_pending (l : LinkId) (r : CtlReply) (s : State) : (s.handCtl l r).pending = s.pending := rfl

/-! ## Reading back what was written -/

theorem window_setWindow (i j : SlotId) (w : Window) (s : State) :
    (s.setWindow i w).window j = if i = j then w else s.window j := by
  simp [window_eq, Vector.getElem_set, Fin.ext_iff]

theorem domain_setDomain (d e : DomId) (x : Domain) (s : State) :
    (s.setDomain d x).domain e = if d = e then x else s.domain e := by
  simp [domain_eq, Vector.getElem_set, Fin.ext_iff]

theorem domain_modDomain (d e : DomId) (f : Domain → Domain) (s : State) :
    (s.modDomain d f).domain e = if d = e then f (s.domain d) else s.domain e :=
  domain_setDomain d e _ s

theorem port_setPort (l m : LinkId) (p : LinkPort) (s : State) :
    (s.setPort l p).port m = if l = m then p else s.port m := by
  simp [port_eq, Vector.getElem_set, Fin.ext_iff]

theorem port_modPort (l m : LinkId) (f : LinkPort → LinkPort) (s : State) :
    (s.modPort l f).port m = if l = m then f (s.port l) else s.port m :=
  port_setPort l m _ s

theorem waitList_setWaiting (l m : LinkId) (es : List EntryNo) (s : State) :
    (s.setWaiting l es).waitList m = if l = m then es else s.waitList m := by
  simp [waitList_eq, Vector.getElem_set, Fin.ext_iff]

theorem entry_setEntry (l m : LinkId) (e f : EntryNo) (x : Entry) (s : State) :
    (s.setEntry l e x).entry m f = if l = m ∧ e = f then x else s.entry m f := by
  by_cases hl : l = m
  · subst hl
    simp [entry_eq, Vector.getElem_set, Fin.ext_iff]
  · have : ¬((l : Nat) = (m : Nat)) := fun h => hl (Fin.ext h)
    simp [entry_eq, hl, this]

theorem stream_setStream (l m : LinkId) (a b : DataStream) (x : StreamEntry) (s : State) :
    (s.setStream l a x).stream m b = if l = m ∧ a = b then x else s.stream m b := by
  by_cases hl : l = m
  · subst hl
    simp [stream_eq, Vector.getElem_set, Fin.ext_iff]
  · have : ¬((l : Nat) = (m : Nat)) := fun h => hl (Fin.ext h)
    simp [stream_eq, hl, this]

theorem tag_setTag (t u : TagNo) (c : TagCond) (s : State) :
    (s.setTag t c).tag u = if t = u then c else s.tag u := by
  simp [tag_eq, Vector.getElem_set, Fin.ext_iff]

theorem target_setTarget (t u : TargetId) (x : TargetState) (s : State) :
    (s.setTarget t x).target u = if t = u then x else s.target u := by
  simp [target_eq, Vector.getElem_set, Fin.ext_iff]

/-! ## Readers across updates of other tables -/

@[simp] theorem domain_setWindow (i : SlotId) (w : Window) (j : DomId) (s : State) : (s.setWindow i w).domain j = s.domain j := rfl
@[simp] theorem stream_setWindow (i : SlotId) (w : Window) (k : LinkId) (b : DataStream) (s : State) : (s.setWindow i w).stream k b = s.stream k b := rfl
@[simp] theorem port_setWindow (i : SlotId) (w : Window) (k : LinkId) (s : State) : (s.setWindow i w).port k = s.port k := rfl
@[simp] theorem entry_setWindow (i : SlotId) (w : Window) (k : LinkId) (j : EntryNo) (s : State) : (s.setWindow i w).entry k j = s.entry k j := rfl
@[simp] theorem waitList_setWindow (i : SlotId) (w : Window) (k : LinkId) (s : State) : (s.setWindow i w).waitList k = s.waitList k := rfl
@[simp] theorem tag_setWindow (i : SlotId) (w : Window) (j : TagNo) (s : State) : (s.setWindow i w).tag j = s.tag j := rfl
@[simp] theorem target_setWindow (i : SlotId) (w : Window) (j : TargetId) (s : State) : (s.setWindow i w).target j = s.target j := rfl
@[simp] theorem window_setDomain (d : DomId) (x : Domain) (j : SlotId) (s : State) : (s.setDomain d x).window j = s.window j := rfl
@[simp] theorem stream_setDomain (d : DomId) (x : Domain) (k : LinkId) (b : DataStream) (s : State) : (s.setDomain d x).stream k b = s.stream k b := rfl
@[simp] theorem port_setDomain (d : DomId) (x : Domain) (k : LinkId) (s : State) : (s.setDomain d x).port k = s.port k := rfl
@[simp] theorem entry_setDomain (d : DomId) (x : Domain) (k : LinkId) (j : EntryNo) (s : State) : (s.setDomain d x).entry k j = s.entry k j := rfl
@[simp] theorem waitList_setDomain (d : DomId) (x : Domain) (k : LinkId) (s : State) : (s.setDomain d x).waitList k = s.waitList k := rfl
@[simp] theorem tag_setDomain (d : DomId) (x : Domain) (j : TagNo) (s : State) : (s.setDomain d x).tag j = s.tag j := rfl
@[simp] theorem target_setDomain (d : DomId) (x : Domain) (j : TargetId) (s : State) : (s.setDomain d x).target j = s.target j := rfl
@[simp] theorem window_setStream (l : LinkId) (st : DataStream) (x : StreamEntry) (j : SlotId) (s : State) : (s.setStream l st x).window j = s.window j := rfl
@[simp] theorem domain_setStream (l : LinkId) (st : DataStream) (x : StreamEntry) (j : DomId) (s : State) : (s.setStream l st x).domain j = s.domain j := rfl
@[simp] theorem port_setStream (l : LinkId) (st : DataStream) (x : StreamEntry) (k : LinkId) (s : State) : (s.setStream l st x).port k = s.port k := rfl
@[simp] theorem entry_setStream (l : LinkId) (st : DataStream) (x : StreamEntry) (k : LinkId) (j : EntryNo) (s : State) : (s.setStream l st x).entry k j = s.entry k j := rfl
@[simp] theorem waitList_setStream (l : LinkId) (st : DataStream) (x : StreamEntry) (k : LinkId) (s : State) : (s.setStream l st x).waitList k = s.waitList k := rfl
@[simp] theorem tag_setStream (l : LinkId) (st : DataStream) (x : StreamEntry) (j : TagNo) (s : State) : (s.setStream l st x).tag j = s.tag j := rfl
@[simp] theorem target_setStream (l : LinkId) (st : DataStream) (x : StreamEntry) (j : TargetId) (s : State) : (s.setStream l st x).target j = s.target j := rfl
@[simp] theorem window_setPort (l : LinkId) (p : LinkPort) (j : SlotId) (s : State) : (s.setPort l p).window j = s.window j := rfl
@[simp] theorem domain_setPort (l : LinkId) (p : LinkPort) (j : DomId) (s : State) : (s.setPort l p).domain j = s.domain j := rfl
@[simp] theorem stream_setPort (l : LinkId) (p : LinkPort) (k : LinkId) (b : DataStream) (s : State) : (s.setPort l p).stream k b = s.stream k b := rfl
@[simp] theorem entry_setPort (l : LinkId) (p : LinkPort) (k : LinkId) (j : EntryNo) (s : State) : (s.setPort l p).entry k j = s.entry k j := rfl
@[simp] theorem waitList_setPort (l : LinkId) (p : LinkPort) (k : LinkId) (s : State) : (s.setPort l p).waitList k = s.waitList k := rfl
@[simp] theorem tag_setPort (l : LinkId) (p : LinkPort) (j : TagNo) (s : State) : (s.setPort l p).tag j = s.tag j := rfl
@[simp] theorem target_setPort (l : LinkId) (p : LinkPort) (j : TargetId) (s : State) : (s.setPort l p).target j = s.target j := rfl
@[simp] theorem window_setEntry (l : LinkId) (e : EntryNo) (x : Entry) (j : SlotId) (s : State) : (s.setEntry l e x).window j = s.window j := rfl
@[simp] theorem domain_setEntry (l : LinkId) (e : EntryNo) (x : Entry) (j : DomId) (s : State) : (s.setEntry l e x).domain j = s.domain j := rfl
@[simp] theorem stream_setEntry (l : LinkId) (e : EntryNo) (x : Entry) (k : LinkId) (b : DataStream) (s : State) : (s.setEntry l e x).stream k b = s.stream k b := rfl
@[simp] theorem port_setEntry (l : LinkId) (e : EntryNo) (x : Entry) (k : LinkId) (s : State) : (s.setEntry l e x).port k = s.port k := rfl
@[simp] theorem waitList_setEntry (l : LinkId) (e : EntryNo) (x : Entry) (k : LinkId) (s : State) : (s.setEntry l e x).waitList k = s.waitList k := rfl
@[simp] theorem tag_setEntry (l : LinkId) (e : EntryNo) (x : Entry) (j : TagNo) (s : State) : (s.setEntry l e x).tag j = s.tag j := rfl
@[simp] theorem target_setEntry (l : LinkId) (e : EntryNo) (x : Entry) (j : TargetId) (s : State) : (s.setEntry l e x).target j = s.target j := rfl
@[simp] theorem window_setWaiting (l : LinkId) (es : List EntryNo) (j : SlotId) (s : State) : (s.setWaiting l es).window j = s.window j := rfl
@[simp] theorem domain_setWaiting (l : LinkId) (es : List EntryNo) (j : DomId) (s : State) : (s.setWaiting l es).domain j = s.domain j := rfl
@[simp] theorem stream_setWaiting (l : LinkId) (es : List EntryNo) (k : LinkId) (b : DataStream) (s : State) : (s.setWaiting l es).stream k b = s.stream k b := rfl
@[simp] theorem port_setWaiting (l : LinkId) (es : List EntryNo) (k : LinkId) (s : State) : (s.setWaiting l es).port k = s.port k := rfl
@[simp] theorem entry_setWaiting (l : LinkId) (es : List EntryNo) (k : LinkId) (j : EntryNo) (s : State) : (s.setWaiting l es).entry k j = s.entry k j := rfl
@[simp] theorem tag_setWaiting (l : LinkId) (es : List EntryNo) (j : TagNo) (s : State) : (s.setWaiting l es).tag j = s.tag j := rfl
@[simp] theorem target_setWaiting (l : LinkId) (es : List EntryNo) (j : TargetId) (s : State) : (s.setWaiting l es).target j = s.target j := rfl
@[simp] theorem window_setFabric (f : Fabric) (j : SlotId) (s : State) : (s.setFabric f).window j = s.window j := rfl
@[simp] theorem domain_setFabric (f : Fabric) (j : DomId) (s : State) : (s.setFabric f).domain j = s.domain j := rfl
@[simp] theorem stream_setFabric (f : Fabric) (k : LinkId) (b : DataStream) (s : State) : (s.setFabric f).stream k b = s.stream k b := rfl
@[simp] theorem port_setFabric (f : Fabric) (k : LinkId) (s : State) : (s.setFabric f).port k = s.port k := rfl
@[simp] theorem entry_setFabric (f : Fabric) (k : LinkId) (j : EntryNo) (s : State) : (s.setFabric f).entry k j = s.entry k j := rfl
@[simp] theorem waitList_setFabric (f : Fabric) (k : LinkId) (s : State) : (s.setFabric f).waitList k = s.waitList k := rfl
@[simp] theorem window_setTag (t : TagNo) (c : TagCond) (j : SlotId) (s : State) : (s.setTag t c).window j = s.window j := rfl
@[simp] theorem domain_setTag (t : TagNo) (c : TagCond) (j : DomId) (s : State) : (s.setTag t c).domain j = s.domain j := rfl
@[simp] theorem stream_setTag (t : TagNo) (c : TagCond) (k : LinkId) (b : DataStream) (s : State) : (s.setTag t c).stream k b = s.stream k b := rfl
@[simp] theorem port_setTag (t : TagNo) (c : TagCond) (k : LinkId) (s : State) : (s.setTag t c).port k = s.port k := rfl
@[simp] theorem entry_setTag (t : TagNo) (c : TagCond) (k : LinkId) (j : EntryNo) (s : State) : (s.setTag t c).entry k j = s.entry k j := rfl
@[simp] theorem waitList_setTag (t : TagNo) (c : TagCond) (k : LinkId) (s : State) : (s.setTag t c).waitList k = s.waitList k := rfl
@[simp] theorem target_setTag (t : TagNo) (c : TagCond) (j : TargetId) (s : State) : (s.setTag t c).target j = s.target j := rfl
@[simp] theorem window_setTarget (t : TargetId) (x : TargetState) (j : SlotId) (s : State) : (s.setTarget t x).window j = s.window j := rfl
@[simp] theorem domain_setTarget (t : TargetId) (x : TargetState) (j : DomId) (s : State) : (s.setTarget t x).domain j = s.domain j := rfl
@[simp] theorem stream_setTarget (t : TargetId) (x : TargetState) (k : LinkId) (b : DataStream) (s : State) : (s.setTarget t x).stream k b = s.stream k b := rfl
@[simp] theorem port_setTarget (t : TargetId) (x : TargetState) (k : LinkId) (s : State) : (s.setTarget t x).port k = s.port k := rfl
@[simp] theorem entry_setTarget (t : TargetId) (x : TargetState) (k : LinkId) (j : EntryNo) (s : State) : (s.setTarget t x).entry k j = s.entry k j := rfl
@[simp] theorem waitList_setTarget (t : TargetId) (x : TargetState) (k : LinkId) (s : State) : (s.setTarget t x).waitList k = s.waitList k := rfl
@[simp] theorem tag_setTarget (t : TargetId) (x : TargetState) (j : TagNo) (s : State) : (s.setTarget t x).tag j = s.tag j := rfl
@[simp] theorem window_setEngine (e : Engine) (j : SlotId) (s : State) : (s.setEngine e).window j = s.window j := rfl
@[simp] theorem domain_setEngine (e : Engine) (j : DomId) (s : State) : (s.setEngine e).domain j = s.domain j := rfl
@[simp] theorem stream_setEngine (e : Engine) (k : LinkId) (b : DataStream) (s : State) : (s.setEngine e).stream k b = s.stream k b := rfl
@[simp] theorem port_setEngine (e : Engine) (k : LinkId) (s : State) : (s.setEngine e).port k = s.port k := rfl
@[simp] theorem entry_setEngine (e : Engine) (k : LinkId) (j : EntryNo) (s : State) : (s.setEngine e).entry k j = s.entry k j := rfl
@[simp] theorem waitList_setEngine (e : Engine) (k : LinkId) (s : State) : (s.setEngine e).waitList k = s.waitList k := rfl
@[simp] theorem tag_setEngine (e : Engine) (j : TagNo) (s : State) : (s.setEngine e).tag j = s.tag j := rfl
@[simp] theorem target_setEngine (e : Engine) (j : TargetId) (s : State) : (s.setEngine e).target j = s.target j := rfl
@[simp] theorem window_setMgmt (m : MgmtPort) (j : SlotId) (s : State) : (s.setMgmt m).window j = s.window j := rfl
@[simp] theorem domain_setMgmt (m : MgmtPort) (j : DomId) (s : State) : (s.setMgmt m).domain j = s.domain j := rfl
@[simp] theorem stream_setMgmt (m : MgmtPort) (k : LinkId) (b : DataStream) (s : State) : (s.setMgmt m).stream k b = s.stream k b := rfl
@[simp] theorem port_setMgmt (m : MgmtPort) (k : LinkId) (s : State) : (s.setMgmt m).port k = s.port k := rfl
@[simp] theorem entry_setMgmt (m : MgmtPort) (k : LinkId) (j : EntryNo) (s : State) : (s.setMgmt m).entry k j = s.entry k j := rfl
@[simp] theorem waitList_setMgmt (m : MgmtPort) (k : LinkId) (s : State) : (s.setMgmt m).waitList k = s.waitList k := rfl
@[simp] theorem tag_setMgmt (m : MgmtPort) (j : TagNo) (s : State) : (s.setMgmt m).tag j = s.tag j := rfl
@[simp] theorem target_setMgmt (m : MgmtPort) (j : TargetId) (s : State) : (s.setMgmt m).target j = s.target j := rfl
@[simp] theorem window_setEvents (u : EventUnit) (j : SlotId) (s : State) : (s.setEvents u).window j = s.window j := rfl
@[simp] theorem domain_setEvents (u : EventUnit) (j : DomId) (s : State) : (s.setEvents u).domain j = s.domain j := rfl
@[simp] theorem stream_setEvents (u : EventUnit) (k : LinkId) (b : DataStream) (s : State) : (s.setEvents u).stream k b = s.stream k b := rfl
@[simp] theorem port_setEvents (u : EventUnit) (k : LinkId) (s : State) : (s.setEvents u).port k = s.port k := rfl
@[simp] theorem entry_setEvents (u : EventUnit) (k : LinkId) (j : EntryNo) (s : State) : (s.setEvents u).entry k j = s.entry k j := rfl
@[simp] theorem waitList_setEvents (u : EventUnit) (k : LinkId) (s : State) : (s.setEvents u).waitList k = s.waitList k := rfl
@[simp] theorem tag_setEvents (u : EventUnit) (j : TagNo) (s : State) : (s.setEvents u).tag j = s.tag j := rfl
@[simp] theorem target_setEvents (u : EventUnit) (j : TargetId) (s : State) : (s.setEvents u).target j = s.target j := rfl
@[simp] theorem window_setNow (n : Nat) (j : SlotId) (s : State) : (s.setNow n).window j = s.window j := rfl
@[simp] theorem domain_setNow (n : Nat) (j : DomId) (s : State) : (s.setNow n).domain j = s.domain j := rfl
@[simp] theorem stream_setNow (n : Nat) (k : LinkId) (b : DataStream) (s : State) : (s.setNow n).stream k b = s.stream k b := rfl
@[simp] theorem port_setNow (n : Nat) (k : LinkId) (s : State) : (s.setNow n).port k = s.port k := rfl
@[simp] theorem entry_setNow (n : Nat) (k : LinkId) (j : EntryNo) (s : State) : (s.setNow n).entry k j = s.entry k j := rfl
@[simp] theorem waitList_setNow (n : Nat) (k : LinkId) (s : State) : (s.setNow n).waitList k = s.waitList k := rfl
@[simp] theorem tag_setNow (n : Nat) (j : TagNo) (s : State) : (s.setNow n).tag j = s.tag j := rfl
@[simp] theorem target_setNow (n : Nat) (j : TargetId) (s : State) : (s.setNow n).target j = s.target j := rfl
@[simp] theorem window_modDomain (d : DomId) (f : Domain → Domain) (j : SlotId) (s : State) : (s.modDomain d f).window j = s.window j := rfl
@[simp] theorem stream_modDomain (d : DomId) (f : Domain → Domain) (k : LinkId) (b : DataStream) (s : State) : (s.modDomain d f).stream k b = s.stream k b := rfl
@[simp] theorem port_modDomain (d : DomId) (f : Domain → Domain) (k : LinkId) (s : State) : (s.modDomain d f).port k = s.port k := rfl
@[simp] theorem entry_modDomain (d : DomId) (f : Domain → Domain) (k : LinkId) (j : EntryNo) (s : State) : (s.modDomain d f).entry k j = s.entry k j := rfl
@[simp] theorem waitList_modDomain (d : DomId) (f : Domain → Domain) (k : LinkId) (s : State) : (s.modDomain d f).waitList k = s.waitList k := rfl
@[simp] theorem tag_modDomain (d : DomId) (f : Domain → Domain) (j : TagNo) (s : State) : (s.modDomain d f).tag j = s.tag j := rfl
@[simp] theorem target_modDomain (d : DomId) (f : Domain → Domain) (j : TargetId) (s : State) : (s.modDomain d f).target j = s.target j := rfl
@[simp] theorem window_modPort (l : LinkId) (f : LinkPort → LinkPort) (j : SlotId) (s : State) : (s.modPort l f).window j = s.window j := rfl
@[simp] theorem domain_modPort (l : LinkId) (f : LinkPort → LinkPort) (j : DomId) (s : State) : (s.modPort l f).domain j = s.domain j := rfl
@[simp] theorem stream_modPort (l : LinkId) (f : LinkPort → LinkPort) (k : LinkId) (b : DataStream) (s : State) : (s.modPort l f).stream k b = s.stream k b := rfl
@[simp] theorem entry_modPort (l : LinkId) (f : LinkPort → LinkPort) (k : LinkId) (j : EntryNo) (s : State) : (s.modPort l f).entry k j = s.entry k j := rfl
@[simp] theorem waitList_modPort (l : LinkId) (f : LinkPort → LinkPort) (k : LinkId) (s : State) : (s.modPort l f).waitList k = s.waitList k := rfl
@[simp] theorem tag_modPort (l : LinkId) (f : LinkPort → LinkPort) (j : TagNo) (s : State) : (s.modPort l f).tag j = s.tag j := rfl
@[simp] theorem target_modPort (l : LinkId) (f : LinkPort → LinkPort) (j : TargetId) (s : State) : (s.modPort l f).target j = s.target j := rfl
@[simp] theorem window_raiseDev (e : DevEvent) (j : SlotId) (s : State) : (s.raiseDev e).window j = s.window j := rfl
@[simp] theorem domain_raiseDev (e : DevEvent) (j : DomId) (s : State) : (s.raiseDev e).domain j = s.domain j := rfl
@[simp] theorem stream_raiseDev (e : DevEvent) (k : LinkId) (b : DataStream) (s : State) : (s.raiseDev e).stream k b = s.stream k b := rfl
@[simp] theorem port_raiseDev (e : DevEvent) (k : LinkId) (s : State) : (s.raiseDev e).port k = s.port k := rfl
@[simp] theorem entry_raiseDev (e : DevEvent) (k : LinkId) (j : EntryNo) (s : State) : (s.raiseDev e).entry k j = s.entry k j := rfl
@[simp] theorem waitList_raiseDev (e : DevEvent) (k : LinkId) (s : State) : (s.raiseDev e).waitList k = s.waitList k := rfl
@[simp] theorem tag_raiseDev (e : DevEvent) (j : TagNo) (s : State) : (s.raiseDev e).tag j = s.tag j := rfl
@[simp] theorem target_raiseDev (e : DevEvent) (j : TargetId) (s : State) : (s.raiseDev e).target j = s.target j := rfl
@[simp] theorem window_raiseLink (l : LinkId) (e : LinkEvent) (j : SlotId) (s : State) : (s.raiseLink l e).window j = s.window j := rfl
@[simp] theorem domain_raiseLink (l : LinkId) (e : LinkEvent) (j : DomId) (s : State) : (s.raiseLink l e).domain j = s.domain j := rfl
@[simp] theorem stream_raiseLink (l : LinkId) (e : LinkEvent) (k : LinkId) (b : DataStream) (s : State) : (s.raiseLink l e).stream k b = s.stream k b := rfl
@[simp] theorem port_raiseLink (l : LinkId) (e : LinkEvent) (k : LinkId) (s : State) : (s.raiseLink l e).port k = s.port k := rfl
@[simp] theorem entry_raiseLink (l : LinkId) (e : LinkEvent) (k : LinkId) (j : EntryNo) (s : State) : (s.raiseLink l e).entry k j = s.entry k j := rfl
@[simp] theorem waitList_raiseLink (l : LinkId) (e : LinkEvent) (k : LinkId) (s : State) : (s.raiseLink l e).waitList k = s.waitList k := rfl
@[simp] theorem tag_raiseLink (l : LinkId) (e : LinkEvent) (j : TagNo) (s : State) : (s.raiseLink l e).tag j = s.tag j := rfl
@[simp] theorem target_raiseLink (l : LinkId) (e : LinkEvent) (j : TargetId) (s : State) : (s.raiseLink l e).target j = s.target j := rfl
@[simp] theorem window_raiseDom (d : DomId) (e : DomEvent) (j : SlotId) (s : State) : (s.raiseDom d e).window j = s.window j := rfl
@[simp] theorem domain_raiseDom (d : DomId) (e : DomEvent) (j : DomId) (s : State) : (s.raiseDom d e).domain j = s.domain j := rfl
@[simp] theorem stream_raiseDom (d : DomId) (e : DomEvent) (k : LinkId) (b : DataStream) (s : State) : (s.raiseDom d e).stream k b = s.stream k b := rfl
@[simp] theorem port_raiseDom (d : DomId) (e : DomEvent) (k : LinkId) (s : State) : (s.raiseDom d e).port k = s.port k := rfl
@[simp] theorem entry_raiseDom (d : DomId) (e : DomEvent) (k : LinkId) (j : EntryNo) (s : State) : (s.raiseDom d e).entry k j = s.entry k j := rfl
@[simp] theorem waitList_raiseDom (d : DomId) (e : DomEvent) (k : LinkId) (s : State) : (s.raiseDom d e).waitList k = s.waitList k := rfl
@[simp] theorem tag_raiseDom (d : DomId) (e : DomEvent) (j : TagNo) (s : State) : (s.raiseDom d e).tag j = s.tag j := rfl
@[simp] theorem target_raiseDom (d : DomId) (e : DomEvent) (j : TargetId) (s : State) : (s.raiseDom d e).target j = s.target j := rfl
@[simp] theorem window_send (l : LinkId) (m : LinkMessage) (j : SlotId) (s : State) : (s.send l m).window j = s.window j := rfl
@[simp] theorem domain_send (l : LinkId) (m : LinkMessage) (j : DomId) (s : State) : (s.send l m).domain j = s.domain j := rfl
@[simp] theorem stream_send (l : LinkId) (m : LinkMessage) (k : LinkId) (b : DataStream) (s : State) : (s.send l m).stream k b = s.stream k b := rfl
@[simp] theorem port_send (l : LinkId) (m : LinkMessage) (k : LinkId) (s : State) : (s.send l m).port k = s.port k := rfl
@[simp] theorem entry_send (l : LinkId) (m : LinkMessage) (k : LinkId) (j : EntryNo) (s : State) : (s.send l m).entry k j = s.entry k j := rfl
@[simp] theorem waitList_send (l : LinkId) (m : LinkMessage) (k : LinkId) (s : State) : (s.send l m).waitList k = s.waitList k := rfl
@[simp] theorem tag_send (l : LinkId) (m : LinkMessage) (j : TagNo) (s : State) : (s.send l m).tag j = s.tag j := rfl
@[simp] theorem target_send (l : LinkId) (m : LinkMessage) (j : TargetId) (s : State) : (s.send l m).target j = s.target j := rfl
@[simp] theorem window_sendFabric (r : FabricRequest) (j : SlotId) (s : State) : (s.sendFabric r).window j = s.window j := rfl
@[simp] theorem domain_sendFabric (r : FabricRequest) (j : DomId) (s : State) : (s.sendFabric r).domain j = s.domain j := rfl
@[simp] theorem stream_sendFabric (r : FabricRequest) (k : LinkId) (b : DataStream) (s : State) : (s.sendFabric r).stream k b = s.stream k b := rfl
@[simp] theorem port_sendFabric (r : FabricRequest) (k : LinkId) (s : State) : (s.sendFabric r).port k = s.port k := rfl
@[simp] theorem entry_sendFabric (r : FabricRequest) (k : LinkId) (j : EntryNo) (s : State) : (s.sendFabric r).entry k j = s.entry k j := rfl
@[simp] theorem waitList_sendFabric (r : FabricRequest) (k : LinkId) (s : State) : (s.sendFabric r).waitList k = s.waitList k := rfl
@[simp] theorem tag_sendFabric (r : FabricRequest) (j : TagNo) (s : State) : (s.sendFabric r).tag j = s.tag j := rfl
@[simp] theorem target_sendFabric (r : FabricRequest) (j : TargetId) (s : State) : (s.sendFabric r).target j = s.target j := rfl
@[simp] theorem window_handData (l : LinkId) (r : DataReply) (j : SlotId) (s : State) : (s.handData l r).window j = s.window j := rfl
@[simp] theorem domain_handData (l : LinkId) (r : DataReply) (j : DomId) (s : State) : (s.handData l r).domain j = s.domain j := rfl
@[simp] theorem stream_handData (l : LinkId) (r : DataReply) (k : LinkId) (b : DataStream) (s : State) : (s.handData l r).stream k b = s.stream k b := rfl
@[simp] theorem entry_handData (l : LinkId) (r : DataReply) (k : LinkId) (j : EntryNo) (s : State) : (s.handData l r).entry k j = s.entry k j := rfl
@[simp] theorem waitList_handData (l : LinkId) (r : DataReply) (k : LinkId) (s : State) : (s.handData l r).waitList k = s.waitList k := rfl
@[simp] theorem tag_handData (l : LinkId) (r : DataReply) (j : TagNo) (s : State) : (s.handData l r).tag j = s.tag j := rfl
@[simp] theorem target_handData (l : LinkId) (r : DataReply) (j : TargetId) (s : State) : (s.handData l r).target j = s.target j := rfl
@[simp] theorem window_handCtl (l : LinkId) (r : CtlReply) (j : SlotId) (s : State) : (s.handCtl l r).window j = s.window j := rfl
@[simp] theorem domain_handCtl (l : LinkId) (r : CtlReply) (j : DomId) (s : State) : (s.handCtl l r).domain j = s.domain j := rfl
@[simp] theorem stream_handCtl (l : LinkId) (r : CtlReply) (k : LinkId) (b : DataStream) (s : State) : (s.handCtl l r).stream k b = s.stream k b := rfl
@[simp] theorem entry_handCtl (l : LinkId) (r : CtlReply) (k : LinkId) (j : EntryNo) (s : State) : (s.handCtl l r).entry k j = s.entry k j := rfl
@[simp] theorem waitList_handCtl (l : LinkId) (r : CtlReply) (k : LinkId) (s : State) : (s.handCtl l r).waitList k = s.waitList k := rfl
@[simp] theorem tag_handCtl (l : LinkId) (r : CtlReply) (j : TagNo) (s : State) : (s.handCtl l r).tag j = s.tag j := rfl
@[simp] theorem target_handCtl (l : LinkId) (r : CtlReply) (j : TargetId) (s : State) : (s.handCtl l r).target j = s.target j := rfl

end Sys2Proof.Machine.State
end

