-- ==== Sys2Proof/Laws/Engine.lean ====
section
/-! SUPPORT. The taking of work at the Table Engine: when a row is taken, what its taking leaves, and what each result
register holds. The proofs about commands cite these in place of unfolding `takeCommand` and `takeControl`. -/

namespace Sys2Proof.Machine

theorem Engine.servesMgmt_iff (e : Engine) :
    e.servesMgmt = true ↔ e.slot ≠ none ∧ (e.inband = [] ∨ e.lastServed = .inband) := by
  simp [Engine.servesMgmt, Option.isSome_iff_ne_none]

theorem Engine.servesInband_iff (e : Engine) :
    e.servesInband = true ↔ e.inband ≠ [] ∧ (e.slot = none ∨ e.lastServed = .management) := by
  simp [Engine.servesInband]

theorem codeIs_eq_true (n : Nat) (c : BitVec 8) : codeIs n c = true ↔ c.toNat = n := by simp [codeIs]

/-- A command that is served and is this row's is taken. -/
theorem takeCommand_taken {mine : BitVec 8 → Bool} {act : Args → State → Done} {s : State} {c : Command}
    (hslot : s.engine.slot = some c) (hmine : mine c.code = true)
    (hturn : s.engine.inband = [] ∨ s.engine.lastServed = .inband) :
    takeCommand mine act s = .next (finishCommand c.seq (act c.args s)) := by
  have h : s.engine.servesMgmt = true := (Engine.servesMgmt_iff _).2 ⟨by simp [hslot], hturn⟩
  simp [takeCommand, hslot, h, hmine]

/-- A row whose command is not the one served does not occur. -/
theorem takeCommand_idle {mine : BitVec 8 → Bool} {act : Args → State → Done} {s : State}
    (h : ∀ c, s.engine.slot = some c → s.engine.servesMgmt = true → mine c.code = false) :
    takeCommand mine act s = .next s := by
  unfold takeCommand
  split
  · rfl
  · next c hc =>
    by_cases hs : s.engine.servesMgmt = true
    · simp [h c hc hs]
    · simp [hs]

/-- Every taking of a command answers a next state. -/
theorem takeCommand_next (mine : BitVec 8 → Bool) (act : Args → State → Done) (s : State) :
    ∃ t, takeCommand mine act s = .next t := by
  unfold takeCommand
  split
  · exact ⟨_, rfl⟩
  · split <;> exact ⟨_, rfl⟩

/-- A control request that is served and has this row's operation is taken. -/
theorem takeControl_taken {op : CtlOp} {act : CtlRequest → State → CtlDone} {s : State} {q : CtlRequest}
    {rest : List CtlRequest} (hq : s.engine.inband = q :: rest) (hop : q.op = op)
    (hturn : s.engine.slot = none ∨ s.engine.lastServed = .management) :
    takeControl op act s = .next (finishControl q rest (act q s)) := by
  have h : s.engine.servesInband = true := (Engine.servesInband_iff _).2 ⟨by simp [hq], hturn⟩
  simp [takeControl, hq, h, hop]

/-- A row whose request is not the one served does not occur. -/
theorem takeControl_idle {op : CtlOp} {act : CtlRequest → State → CtlDone} {s : State}
    (h : s.engine.servesInband = false) : takeControl op act s = .next s := by
  unfold takeControl
  split
  · rfl
  · simp [h]

/-- Every taking of a control request answers a next state. -/
theorem takeControl_next (op : CtlOp) (act : CtlRequest → State → CtlDone) (s : State) :
    ∃ t, takeControl op act s = .next t := by
  unfold takeControl
  split
  · exact ⟨_, rfl⟩
  · split <;> exact ⟨_, rfl⟩

/-- A taking of a command, case by case: it does not occur, or it is carried out on the command in the slot. -/
theorem takeCommand_cases {mine : BitVec 8 → Bool} {act : Args → State → Done} {s t : State}
    (h : takeCommand mine act s = .next t) :
    t = s ∨ ∃ c, s.engine.slot = some c ∧ mine c.code = true ∧ s.engine.servesMgmt = true ∧
      t = finishCommand c.seq (act c.args s) := by
  unfold takeCommand at h
  split at h
  · exact .inl (Host.Outcome.next.inj h).symm
  · next c hc =>
    split at h
    · next hb =>
      rw [Bool.and_eq_true] at hb
      exact .inr ⟨c, hc, hb.2, hb.1, (Host.Outcome.next.inj h).symm⟩
    · exact .inl (Host.Outcome.next.inj h).symm

/-- A taking of a control request, case by case. -/
theorem takeControl_cases {op : CtlOp} {act : CtlRequest → State → CtlDone} {s t : State}
    (h : takeControl op act s = .next t) :
    t = s ∨ ∃ q rest, s.engine.inband = q :: rest ∧ q.op = op ∧ s.engine.servesInband = true ∧
      t = finishControl q rest (act q s) := by
  unfold takeControl at h
  split at h
  · exact .inl (Host.Outcome.next.inj h).symm
  · next q rest hq =>
    split at h
    · next hb =>
      simp only [Bool.and_eq_true, decide_eq_true_eq] at hb
      exact .inr ⟨q, rest, hq, hb.2, hb.1, (Host.Outcome.next.inj h).symm⟩
    · exact .inl (Host.Outcome.next.inj h).symm

/-! ## What a taking leaves in each field -/

section
variable (seq : BitVec 8) (r : Done)

@[simp] theorem finishCommand_windows : (finishCommand seq r).windows = r.state.windows := rfl
@[simp] theorem finishCommand_domains : (finishCommand seq r).domains = r.state.domains := rfl
@[simp] theorem finishCommand_bindings : (finishCommand seq r).bindings = r.state.bindings := rfl
@[simp] theorem finishCommand_ports : (finishCommand seq r).ports = r.state.ports := rfl
@[simp] theorem finishCommand_entries : (finishCommand seq r).entries = r.state.entries := rfl
@[simp] theorem finishCommand_waiting : (finishCommand seq r).waiting = r.state.waiting := rfl
@[simp] theorem finishCommand_fabric : (finishCommand seq r).fabric = r.state.fabric := rfl
@[simp] theorem finishCommand_engine : (finishCommand seq r).engine =
    { r.state.engine with slot := none, lastServed := .management } := rfl
@[simp] theorem finishCommand_mgmt : (finishCommand seq r).mgmt =
    { r.state.mgmt with status := .done, seq := seq, results := resultWords r.code r.items } := rfl
@[simp] theorem finishCommand_events : (finishCommand seq r).events = r.state.events.raiseDev .cmdDone := rfl
@[simp] theorem finishCommand_sent : (finishCommand seq r).sent = r.state.sent := rfl
@[simp] theorem finishCommand_fabricSent : (finishCommand seq r).fabricSent = r.state.fabricSent := rfl
@[simp] theorem finishCommand_now : (finishCommand seq r).now = r.state.now := rfl
@[simp] theorem finishCommand_pending : (finishCommand seq r).pending = r.state.pending := rfl

end

section
variable (q : CtlRequest) (rest : List CtlRequest) (r : CtlDone)

@[simp] theorem finishControl_windows : (finishControl q rest r).windows = r.state.windows := rfl
@[simp] theorem finishControl_domains : (finishControl q rest r).domains = r.state.domains := rfl
@[simp] theorem finishControl_bindings : (finishControl q rest r).bindings = r.state.bindings := rfl
@[simp] theorem finishControl_ports : (finishControl q rest r).ports = r.state.ports.set q.link
    { r.state.port q.link with
      outCtl := (r.state.port q.link).outCtl ++ [⟨q.tag, q.byte2, r.code, r.body⟩] } := rfl
@[simp] theorem finishControl_entries : (finishControl q rest r).entries = r.state.entries := rfl
@[simp] theorem finishControl_waiting : (finishControl q rest r).waiting = r.state.waiting := rfl
@[simp] theorem finishControl_fabric : (finishControl q rest r).fabric = r.state.fabric := rfl
@[simp] theorem finishControl_engine : (finishControl q rest r).engine =
    { r.state.engine with inband := rest, lastServed := .inband } := rfl
@[simp] theorem finishControl_mgmt : (finishControl q rest r).mgmt = r.state.mgmt := rfl
@[simp] theorem finishControl_events : (finishControl q rest r).events = r.state.events := rfl
@[simp] theorem finishControl_sent : (finishControl q rest r).sent = r.state.sent := rfl
@[simp] theorem finishControl_fabricSent : (finishControl q rest r).fabricSent = r.state.fabricSent := rfl
@[simp] theorem finishControl_now : (finishControl q rest r).now = r.state.now := rfl
@[simp] theorem finishControl_pending : (finishControl q rest r).pending = r.state.pending := rfl

end

/-! ## Refusal and acceptance -/

@[simp] theorem Done.checked_some (c : ResultCode) (f : Unit → Done) (s : State) :
    Done.checked (some c) f s = Done.refuse c s := rfl
@[simp] theorem Done.checked_none (f : Unit → Done) (s : State) : Done.checked none f s = f () := rfl
@[simp] theorem Done.refuse_state (c : ResultCode) (s : State) : (Done.refuse c s).state = s := rfl
@[simp] theorem Done.refuse_code (c : ResultCode) (s : State) : (Done.refuse c s).code = c := rfl
@[simp] theorem Done.refuse_items (c : ResultCode) (s : State) : (Done.refuse c s).items = [] := rfl
@[simp] theorem CtlDone.refuse_state (c : ResultCode) (s : State) : (CtlDone.refuse c s).state = s := rfl
@[simp] theorem CtlDone.refuse_code (c : ResultCode) (s : State) : (CtlDone.refuse c s).code = c := rfl
@[simp] theorem CtlDone.refuse_body (c : ResultCode) (s : State) : (CtlDone.refuse c s).body = [] := rfl

/-! ## The result registers -/

/-- The first result register holds the result code. -/
theorem resultWords_zero (code : ResultCode) (items : List Word) :
    (resultWords code items)[0] = BitVec.ofNat 32 code.num := by
  cases code <;> simp [resultWords, fieldWord, ResultCode.num]

/-- The other result registers hold the items in order, and 0 beyond them. -/
theorem resultWords_succ (code : ResultCode) (items : List Word) (i : Nat) (h : i + 1 < 12) :
    (resultWords code items)[i + 1] = items.getD i 0 := by
  simp [resultWords]

end Sys2Proof.Machine
end

