-- ==== Sys2Proof/Laws/Operands.lean ====
section
/-! SUPPORT. What the operand readers and writers answer: the bits of a result field, of a permission set and of a mask,
and when a range check passes. -/

namespace Sys2Proof.Machine

/-! ## Written words -/

/-- Bit `k` of a field placed at `lo`: the value's bit inside the field, 0 outside it. -/
theorem getLsbD_fieldWord (lo len v k : Nat) :
    (fieldWord lo len v).getLsbD k = (decide (lo ≤ k ∧ k - lo < len ∧ k < 32) && v.testBit (k - lo)) := by
  unfold fieldWord
  rw [BitVec.getLsbD_shiftLeft, BitVec.getLsbD_setWidth, BitVec.getLsbD_ofNat]
  have h4 : (lo ≤ k) = ¬(k < lo) := by simp
  by_cases h1 : k < 32 <;> by_cases h2 : k < lo <;> by_cases h3 : k - lo < len <;> simp [h1, h2, h3, h4]
  omega

/-- The first 32 bits of a number in two words. -/
theorem pairWords_eq (v : Nat) :
    pairWords v = [(BitVec.ofNat 64 v).extractLsb' 0 32, (BitVec.ofNat 64 v).extractLsb' 32 32] := by
  have h0 : BitVec.ofNat 32 v = (BitVec.ofNat 64 v).extractLsb' 0 32 := by
    apply BitVec.eq_of_toNat_eq
    simp only [BitVec.toNat_ofNat, BitVec.extractLsb'_toNat, Nat.shiftRight_zero]
    omega
  have h1 : BitVec.ofNat 32 (v / 2 ^ 32) = (BitVec.ofNat 64 v).extractLsb' 32 32 := by
    apply BitVec.eq_of_toNat_eq
    simp only [BitVec.toNat_ofNat, BitVec.extractLsb'_toNat, Nat.shiftRight_eq_div_pow]
    omega
  rw [pairWords, h0, h1]

/-- Bit `k` of a mask is the list's element `k`. -/
theorem testBit_maskOf (bs : List Bool) (k : Nat) : (maskOf bs).testBit k = bs.getD k false := by
  induction bs generalizing k with
  | nil => simp [maskOf]
  | cons b rest ih =>
    cases k with
    | zero => cases b <;> simp [maskOf, Nat.testBit_zero, Nat.add_mul_mod_self_left]
    | succ n =>
      rw [Nat.testBit_succ]
      have : (maskOf (b :: rest)) / 2 = maskOf rest := by
        cases b <;> simp [maskOf]
        omega
      rw [this, ih]
      simp

/-- A mask of `n` bits is below `2 ^ n`. -/
theorem maskOf_lt (bs : List Bool) : maskOf bs < 2 ^ bs.length := by
  induction bs with
  | nil => simp [maskOf]
  | cons b rest ih =>
    simp only [maskOf, List.length_cons, Nat.pow_succ]
    cases b <;> simp <;> omega

/-! ## Range checks -/

theorem Perms.legal_iff (p : Perms) : p.legal = true ↔ (p.speculative = true → p.read = true) := by
  rcases p with ⟨r, w, s⟩
  cases r <;> cases s <;> simp [Perms.legal]

theorem Perms.subset_iff (p q : Perms) : p.subset q = true ↔
    (p.read = true → q.read = true) ∧ (p.write = true → q.write = true) ∧
      (p.speculative = true → q.speculative = true) := by
  rcases p with ⟨a, b, c⟩
  rcases q with ⟨d, e, f⟩
  cases a <;> cases b <;> cases c <;> simp [Perms.subset, and_assoc]

/-- NARROW leaves a legal permission set (R149). -/
theorem Perms.narrowTo_legal (p q : Perms) : (p.narrowTo q).legal = true := by
  rcases p with ⟨a, b, c⟩
  rcases q with ⟨d, e, f⟩
  cases a <;> cases c <;> cases d <;> cases f <;> rfl

theorem Perms.empty_legal : Perms.empty.legal = true := rfl

theorem budgetOk_iff (b : Option Nat) : budgetOk b = true ↔ ∀ v ∈ b, 0 < v ∧ v ≤ 2 ^ 40 := by
  cases b <;> simp [budgetOk, Config.budgetMax]

theorem Geometry.areaOk_iff (g : Geometry) : g.areaOk = true ↔
    12 ≤ g.sizeExp ∧ g.sizeExp ≤ 40 ∧ g.base < 2 ^ 48 ∧ g.base % 2 ^ g.sizeExp = 0 := by
  simp [Geometry.areaOk, Config.sizeExpMin, Config.sizeExpMax, Config.inputSpace, and_assoc]

theorem Geometry.ok_iff (g : Geometry) : g.ok = true ↔
    (12 ≤ g.sizeExp ∧ g.sizeExp ≤ 40 ∧ g.base < 2 ^ 48 ∧ g.base % 2 ^ g.sizeExp = 0) ∧
      g.targetBase % 2 ^ g.sizeExp = 0 := by
  rw [Geometry.ok, Bool.and_eq_true, Geometry.areaOk_iff, decide_eq_true_eq]

theorem Domain.inService_iff (x : Domain) :
    x.inService = true ↔ x.state = .active ∨ x.state = .frozen ∨ x.state = .halted := by
  unfold Domain.inService
  cases x.state <;> simp

theorem streamOf?_streamNum (st : DataStream) : streamOf? (st.val + 1) = some st := by
  have := st.isLt
  simp [streamOf?]

theorem streamOf?_eq_none (n : Nat) : streamOf? n = none ↔ n = 0 ∨ 15 < n := by
  unfold streamOf?
  split
  · simp; omega
  · simp; omega

theorem argField_lt (a : Args) (i : Fin 12) (lo len : Nat) : argField a i lo len < 2 ^ len :=
  ((a[i]).extractLsb' lo len).isLt

theorem argPair_lt (a : Args) (lo hi : Fin 12) : argPair a lo hi < 2 ^ 64 := by
  have h1 := (a[lo]).isLt
  have h2 := (a[hi]).isLt
  unfold argPair
  omega

end Sys2Proof.Machine
end

