-- ==== Sys2Proof/Laws/Tables.lean ====
section
/-! SUPPORT. What the shared operations on windows, domains and notices can do: which slot is the lowest FREE one, what a
handle names, where a rank puts a slot on a chain, and what removal, the reference drop and the pending of a notice leave. -/

namespace Sys2Proof.Machine

/-! ## Slots and handles -/

/-- The lowest FREE slot is FREE, and no lower slot is (R5). -/
theorem State.lowestFree_eq_some_iff (s : State) (i : SlotId) : s.lowestFree = some i ↔
    (s.window i).state = .free ∧ ∀ j : SlotId, j < i → (s.window j).state ≠ .free := by
  unfold State.lowestFree
  rw [List.find?_eq_some_iff_getElem]
  constructor
  · rintro ⟨h1, k, hk, rfl, h2⟩
    refine ⟨of_decide_eq_true h1, fun j hj => ?_⟩
    have hlt : j.val < k := by simpa [Fin.lt_def] using hj
    have := h2 j.val hlt
    simpa using this
  · rintro ⟨h1, h2⟩
    refine ⟨decide_eq_true h1, i.val, by simp, by simp, fun j hj => ?_⟩
    have := h2 ⟨j, by omega⟩ (by simpa [Fin.lt_def] using hj)
    simpa using this

/-- There is no lowest FREE slot exactly when no slot is FREE (R5). -/
theorem State.lowestFree_eq_none_iff (s : State) :
    s.lowestFree = none ↔ ∀ i : SlotId, (s.window i).state ≠ .free := by
  simp [State.lowestFree]

/-- A handle that names no slot (R3). -/
theorem State.classify_noSlot {s : State} {h : RawHandle} (hs : 127 < h.slot) : s.classify h = .noSlot := by
  simp [State.classify, Nat.not_lt.2 hs]

/-- A handle whose slot exists (R3). -/
theorem State.classify_slot {s : State} {h : RawHandle} {i : SlotId} (hs : h.slot = i.val) : s.classify h =
    if (s.window i).generation = h.generation ∧ (s.window i).state ≠ .free then .current i else .stale := by
  have hi := i.isLt
  simp [State.classify, hs]

theorem State.rankHeld_iff (s : State) (d : DomId) (r : Nat) :
    s.rankHeld d r = true ↔ ∃ i ∈ (s.domain d).chain, (s.window i).rank = r := by
  simp [State.rankHeld]

/-! ## Chains -/

/-- A slot goes behind the windows of rank at most its own and before the first of a greater rank (R31). -/
theorem insertByRank_append (ws : Vector Window 128) (i : SlotId) (r : Nat) (pre post : List SlotId)
    (hpre : ∀ j ∈ pre, ¬ r < (ws[j]).rank) (hpost : ∀ j ∈ post, r < (ws[j]).rank) :
    insertByRank ws i r (pre ++ post) = pre ++ i :: post := by
  induction pre with
  | nil =>
    cases post with
    | nil => rfl
    | cons a rest =>
      have := hpost a (by simp)
      simp only [List.nil_append, insertByRank]
      rw [if_pos this]
  | cons a rest ih =>
    simp only [List.cons_append, insertByRank]
    rw [if_neg (hpre a (by simp)), ih fun j hj => hpre j (by simp [hj])]

theorem mem_insertByRank (ws : Vector Window 128) (i j : SlotId) (r : Nat) (chain : List SlotId) :
    j ∈ insertByRank ws i r chain ↔ j = i ∨ j ∈ chain := by
  induction chain with
  | nil => simp [insertByRank]
  | cons a rest ih =>
    simp only [insertByRank]
    split
    · simp
    · simp only [List.mem_cons, ih]
      tauto

theorem length_insertByRank (ws : Vector Window 128) (i : SlotId) (r : Nat) (chain : List SlotId) :
    (insertByRank ws i r chain).length = chain.length + 1 := by
  induction chain with
  | nil => rfl
  | cons a rest ih =>
    simp only [insertByRank]
    split
    · rfl
    · simp [ih]

/-! ## Filling and clearing a slot -/

theorem State.window_fillSlot (i j : SlotId) (w : Window) (s : State) : (s.fillSlot i w).window j =
    if i = j then { w with generation := (s.window i).generation + 1 } else s.window j :=
  State.window_setWindow i j _ s

theorem State.window_clearSlot (i j : SlotId) (s : State) : (s.clearSlot i).window j =
    if i = j then Window.cleared (s.window i).generation else s.window j :=
  State.window_setWindow i j _ s

theorem State.domain_chainInsert (d e : DomId) (i : SlotId) (r : Nat) (s : State) : (s.chainInsert d i r).domain e =
    if d = e then { s.domain d with chain := insertByRank s.windows i r (s.domain d).chain } else s.domain e :=
  State.domain_modDomain d e _ s

@[simp] theorem State.fillSlot_domains (i : SlotId) (w : Window) (s : State) : (s.fillSlot i w).domains = s.domains := by
  rfl
@[simp] theorem State.fillSlot_bindings (i : SlotId) (w : Window) (s : State) : (s.fillSlot i w).bindings = s.bindings := by
  rfl
@[simp] theorem State.fillSlot_ports (i : SlotId) (w : Window) (s : State) : (s.fillSlot i w).ports = s.ports := by
  rfl
@[simp] theorem State.fillSlot_entries (i : SlotId) (w : Window) (s : State) : (s.fillSlot i w).entries = s.entries := by
  rfl
@[simp] theorem State.fillSlot_waiting (i : SlotId) (w : Window) (s : State) : (s.fillSlot i w).waiting = s.waiting := by
  rfl
@[simp] theorem State.fillSlot_fabric (i : SlotId) (w : Window) (s : State) : (s.fillSlot i w).fabric = s.fabric := by
  rfl
@[simp] theorem State.fillSlot_engine (i : SlotId) (w : Window) (s : State) : (s.fillSlot i w).engine = s.engine := by
  rfl
@[simp] theorem State.fillSlot_mgmt (i : SlotId) (w : Window) (s : State) : (s.fillSlot i w).mgmt = s.mgmt := by
  rfl
@[simp] theorem State.fillSlot_events (i : SlotId) (w : Window) (s : State) : (s.fillSlot i w).events = s.events := by
  rfl
@[simp] theorem State.fillSlot_sent (i : SlotId) (w : Window) (s : State) : (s.fillSlot i w).sent = s.sent := by
  rfl
@[simp] theorem State.fillSlot_fabricSent (i : SlotId) (w : Window) (s : State) : (s.fillSlot i w).fabricSent = s.fabricSent := by
  rfl
@[simp] theorem State.fillSlot_now (i : SlotId) (w : Window) (s : State) : (s.fillSlot i w).now = s.now := by
  rfl
@[simp] theorem State.fillSlot_pending (i : SlotId) (w : Window) (s : State) : (s.fillSlot i w).pending = s.pending := by
  rfl
@[simp] theorem State.clearSlot_domains (i : SlotId) (s : State) : (s.clearSlot i).domains = s.domains := by
  rfl
@[simp] theorem State.clearSlot_bindings (i : SlotId) (s : State) : (s.clearSlot i).bindings = s.bindings := by
  rfl
@[simp] theorem State.clearSlot_ports (i : SlotId) (s : State) : (s.clearSlot i).ports = s.ports := by
  rfl
@[simp] theorem State.clearSlot_entries (i : SlotId) (s : State) : (s.clearSlot i).entries = s.entries := by
  rfl
@[simp] theorem State.clearSlot_waiting (i : SlotId) (s : State) : (s.clearSlot i).waiting = s.waiting := by
  rfl
@[simp] theorem State.clearSlot_fabric (i : SlotId) (s : State) : (s.clearSlot i).fabric = s.fabric := by
  rfl
@[simp] theorem State.clearSlot_engine (i : SlotId) (s : State) : (s.clearSlot i).engine = s.engine := by
  rfl
@[simp] theorem State.clearSlot_mgmt (i : SlotId) (s : State) : (s.clearSlot i).mgmt = s.mgmt := by
  rfl
@[simp] theorem State.clearSlot_events (i : SlotId) (s : State) : (s.clearSlot i).events = s.events := by
  rfl
@[simp] theorem State.clearSlot_sent (i : SlotId) (s : State) : (s.clearSlot i).sent = s.sent := by
  rfl
@[simp] theorem State.clearSlot_fabricSent (i : SlotId) (s : State) : (s.clearSlot i).fabricSent = s.fabricSent := by
  rfl
@[simp] theorem State.clearSlot_now (i : SlotId) (s : State) : (s.clearSlot i).now = s.now := by
  rfl
@[simp] theorem State.clearSlot_pending (i : SlotId) (s : State) : (s.clearSlot i).pending = s.pending := by
  rfl
@[simp] theorem State.chainInsert_windows (d : DomId) (i : SlotId) (r : Nat) (s : State) : (s.chainInsert d i r).windows = s.windows := by
  rfl
@[simp] theorem State.chainInsert_bindings (d : DomId) (i : SlotId) (r : Nat) (s : State) : (s.chainInsert d i r).bindings = s.bindings := by
  rfl
@[simp] theorem State.chainInsert_ports (d : DomId) (i : SlotId) (r : Nat) (s : State) : (s.chainInsert d i r).ports = s.ports := by
  rfl
@[simp] theorem State.chainInsert_entries (d : DomId) (i : SlotId) (r : Nat) (s : State) : (s.chainInsert d i r).entries = s.entries := by
  rfl
@[simp] theorem State.chainInsert_waiting (d : DomId) (i : SlotId) (r : Nat) (s : State) : (s.chainInsert d i r).waiting = s.waiting := by
  rfl
@[simp] theorem State.chainInsert_fabric (d : DomId) (i : SlotId) (r : Nat) (s : State) : (s.chainInsert d i r).fabric = s.fabric := by
  rfl
@[simp] theorem State.chainInsert_engine (d : DomId) (i : SlotId) (r : Nat) (s : State) : (s.chainInsert d i r).engine = s.engine := by
  rfl
@[simp] theorem State.chainInsert_mgmt (d : DomId) (i : SlotId) (r : Nat) (s : State) : (s.chainInsert d i r).mgmt = s.mgmt := by
  rfl
@[simp] theorem State.chainInsert_events (d : DomId) (i : SlotId) (r : Nat) (s : State) : (s.chainInsert d i r).events = s.events := by
  rfl
@[simp] theorem State.chainInsert_sent (d : DomId) (i : SlotId) (r : Nat) (s : State) : (s.chainInsert d i r).sent = s.sent := by
  rfl
@[simp] theorem State.chainInsert_fabricSent (d : DomId) (i : SlotId) (r : Nat) (s : State) : (s.chainInsert d i r).fabricSent = s.fabricSent := by
  rfl
@[simp] theorem State.chainInsert_now (d : DomId) (i : SlotId) (r : Nat) (s : State) : (s.chainInsert d i r).now = s.now := by
  rfl
@[simp] theorem State.chainInsert_pending (d : DomId) (i : SlotId) (r : Nat) (s : State) : (s.chainInsert d i r).pending = s.pending := by
  rfl

/-! ## Removal (R7) -/

@[simp] theorem State.removeWindow_bindings (d : DomId) (i : SlotId) (s : State) : (s.removeWindow d i).bindings = s.bindings := by
  unfold State.removeWindow; dsimp only; split <;> rfl
@[simp] theorem State.removeWindow_ports (d : DomId) (i : SlotId) (s : State) : (s.removeWindow d i).ports = s.ports := by
  unfold State.removeWindow; dsimp only; split <;> rfl
@[simp] theorem State.removeWindow_entries (d : DomId) (i : SlotId) (s : State) : (s.removeWindow d i).entries = s.entries := by
  unfold State.removeWindow; dsimp only; split <;> rfl
@[simp] theorem State.removeWindow_waiting (d : DomId) (i : SlotId) (s : State) : (s.removeWindow d i).waiting = s.waiting := by
  unfold State.removeWindow; dsimp only; split <;> rfl
@[simp] theorem State.removeWindow_fabric (d : DomId) (i : SlotId) (s : State) : (s.removeWindow d i).fabric = s.fabric := by
  unfold State.removeWindow; dsimp only; split <;> rfl
@[simp] theorem State.removeWindow_engine (d : DomId) (i : SlotId) (s : State) : (s.removeWindow d i).engine = s.engine := by
  unfold State.removeWindow; dsimp only; split <;> rfl
@[simp] theorem State.removeWindow_mgmt (d : DomId) (i : SlotId) (s : State) : (s.removeWindow d i).mgmt = s.mgmt := by
  unfold State.removeWindow; dsimp only; split <;> rfl
@[simp] theorem State.removeWindow_events (d : DomId) (i : SlotId) (s : State) : (s.removeWindow d i).events = s.events := by
  unfold State.removeWindow; dsimp only; split <;> rfl
@[simp] theorem State.removeWindow_sent (d : DomId) (i : SlotId) (s : State) : (s.removeWindow d i).sent = s.sent := by
  unfold State.removeWindow; dsimp only; split <;> rfl
@[simp] theorem State.removeWindow_fabricSent (d : DomId) (i : SlotId) (s : State) : (s.removeWindow d i).fabricSent = s.fabricSent := by
  unfold State.removeWindow; dsimp only; split <;> rfl
@[simp] theorem State.removeWindow_now (d : DomId) (i : SlotId) (s : State) : (s.removeWindow d i).now = s.now := by
  unfold State.removeWindow; dsimp only; split <;> rfl
@[simp] theorem State.removeWindow_pending (d : DomId) (i : SlotId) (s : State) : (s.removeWindow d i).pending = s.pending := by
  unfold State.removeWindow; dsimp only; split <;> rfl

/-- What a removal leaves in each slot (R7). -/
theorem State.window_removeWindow (d : DomId) (i j : SlotId) (s : State) : (s.removeWindow d i).window j =
    if i = j then
      (if (s.window i).refs = 0 then Window.cleared (s.window i).generation
       else { s.window i with state := .draining })
    else s.window j := by
  unfold State.removeWindow
  dsimp only
  by_cases h : (s.window i).refs = 0
  · simp only [h, if_true]
    rw [State.window_clearSlot]
    rfl
  · simp only [h, if_false]
    rw [State.window_setWindow]
    rfl

/-- What a removal leaves in each domain (R7). -/
theorem State.domain_removeWindow (d e : DomId) (i : SlotId) (s : State) : (s.removeWindow d i).domain e =
    if d = e then
      { s.domain d with
        chain := (s.domain d).chain.filter (fun j => decide (j ≠ i))
        selfCount := if (s.window i).owner = .self then (s.domain d).selfCount - 1 else (s.domain d).selfCount
        drainingCount := if (s.window i).refs = 0 then (s.domain d).drainingCount else (s.domain d).drainingCount + 1 }
    else s.domain e := by
  unfold State.removeWindow
  dsimp only
  by_cases h : (s.window i).refs = 0
  · simp only [h, if_true]
    rw [State.domain_eq, State.clearSlot_domains, ← State.domain_eq, State.domain_modDomain]
  · simp only [h, if_false]
    rw [State.domain_eq, State.setWindow_domains, ← State.domain_eq, State.domain_modDomain]

/-! ## The reference drop (R9) -/

@[simp] theorem State.noteFreed_windows (d : DomId) (s : State) : (s.noteFreed d).windows = s.windows := by
  unfold State.noteFreed; dsimp only; split <;> rfl
@[simp] theorem State.noteFreed_bindings (d : DomId) (s : State) : (s.noteFreed d).bindings = s.bindings := by
  unfold State.noteFreed; dsimp only; split <;> rfl
@[simp] theorem State.noteFreed_ports (d : DomId) (s : State) : (s.noteFreed d).ports = s.ports := by
  unfold State.noteFreed; dsimp only; split <;> rfl
@[simp] theorem State.noteFreed_entries (d : DomId) (s : State) : (s.noteFreed d).entries = s.entries := by
  unfold State.noteFreed; dsimp only; split <;> rfl
@[simp] theorem State.noteFreed_waiting (d : DomId) (s : State) : (s.noteFreed d).waiting = s.waiting := by
  unfold State.noteFreed; dsimp only; split <;> rfl
@[simp] theorem State.noteFreed_fabric (d : DomId) (s : State) : (s.noteFreed d).fabric = s.fabric := by
  unfold State.noteFreed; dsimp only; split <;> rfl
@[simp] theorem State.noteFreed_engine (d : DomId) (s : State) : (s.noteFreed d).engine = s.engine := by
  unfold State.noteFreed; dsimp only; split <;> rfl
@[simp] theorem State.noteFreed_mgmt (d : DomId) (s : State) : (s.noteFreed d).mgmt = s.mgmt := by
  unfold State.noteFreed; dsimp only; split <;> rfl
@[simp] theorem State.noteFreed_sent (d : DomId) (s : State) : (s.noteFreed d).sent = s.sent := by
  unfold State.noteFreed; dsimp only; split <;> rfl
@[simp] theorem State.noteFreed_fabricSent (d : DomId) (s : State) : (s.noteFreed d).fabricSent = s.fabricSent := by
  unfold State.noteFreed; dsimp only; split <;> rfl
@[simp] theorem State.noteFreed_now (d : DomId) (s : State) : (s.noteFreed d).now = s.now := by
  unfold State.noteFreed; dsimp only; split <;> rfl
@[simp] theorem State.noteFreed_pending (d : DomId) (s : State) : (s.noteFreed d).pending = s.pending := by
  unfold State.noteFreed; dsimp only; split <;> rfl
@[simp] theorem State.dropRef_bindings (h : Handle) (s : State) : (s.dropRef h).bindings = s.bindings := by
  unfold State.dropRef; dsimp only; split
  · rfl
  · split
    · simp
    · rfl
@[simp] theorem State.dropRef_ports (h : Handle) (s : State) : (s.dropRef h).ports = s.ports := by
  unfold State.dropRef; dsimp only; split
  · rfl
  · split
    · simp
    · rfl
@[simp] theorem State.dropRef_entries (h : Handle) (s : State) : (s.dropRef h).entries = s.entries := by
  unfold State.dropRef; dsimp only; split
  · rfl
  · split
    · simp
    · rfl
@[simp] theorem State.dropRef_waiting (h : Handle) (s : State) : (s.dropRef h).waiting = s.waiting := by
  unfold State.dropRef; dsimp only; split
  · rfl
  · split
    · simp
    · rfl
@[simp] theorem State.dropRef_fabric (h : Handle) (s : State) : (s.dropRef h).fabric = s.fabric := by
  unfold State.dropRef; dsimp only; split
  · rfl
  · split
    · simp
    · rfl
@[simp] theorem State.dropRef_engine (h : Handle) (s : State) : (s.dropRef h).engine = s.engine := by
  unfold State.dropRef; dsimp only; split
  · rfl
  · split
    · simp
    · rfl
@[simp] theorem State.dropRef_mgmt (h : Handle) (s : State) : (s.dropRef h).mgmt = s.mgmt := by
  unfold State.dropRef; dsimp only; split
  · rfl
  · split
    · simp
    · rfl
@[simp] theorem State.dropRef_sent (h : Handle) (s : State) : (s.dropRef h).sent = s.sent := by
  unfold State.dropRef; dsimp only; split
  · rfl
  · split
    · simp
    · rfl
@[simp] theorem State.dropRef_fabricSent (h : Handle) (s : State) : (s.dropRef h).fabricSent = s.fabricSent := by
  unfold State.dropRef; dsimp only; split
  · rfl
  · split
    · simp
    · rfl
@[simp] theorem State.dropRef_now (h : Handle) (s : State) : (s.dropRef h).now = s.now := by
  unfold State.dropRef; dsimp only; split
  · rfl
  · split
    · simp
    · rfl
@[simp] theorem State.dropRef_pending (h : Handle) (s : State) : (s.dropRef h).pending = s.pending := by
  unfold State.dropRef; dsimp only; split
  · rfl
  · split
    · simp
    · rfl

/-- What a reference drop leaves in each slot: the count falls, and the last reference of a DRAINING window clears it. -/
theorem State.window_dropRef (h : Handle) (j : SlotId) (s : State) : (s.dropRef h).window j =
    if h.slot = j ∧ (s.window j).generation = h.generation then
      (if (s.window j).state = .draining ∧ (s.window j).refs - 1 = 0 then Window.cleared (s.window j).generation
       else { s.window j with refs := (s.window j).refs - 1 })
    else s.window j := by
  unfold State.dropRef
  dsimp only
  by_cases hg : (s.window h.slot).generation = h.generation
  · rw [if_neg (by simpa using hg)]
    by_cases hj : h.slot = j
    · subst hj
      simp only [hg, and_self, if_true]
      split
      · rw [State.window_eq, State.noteFreed_windows, ← State.window_eq, State.window_clearSlot]
        simp [hg]
      · rw [State.window_setWindow]
        simp
    · simp only [hj, false_and, if_false]
      split
      · rw [State.window_eq, State.noteFreed_windows, ← State.window_eq, State.window_clearSlot]
        simp [hj]
      · rw [State.window_setWindow]
        simp [hj]
  · rw [if_pos (by simpa using hg)]
    by_cases hj : h.slot = j
    · subst hj
      simp [hg]
    · simp [hj]

/-- A reference drop changes a domain only by freeing the last reference of a DRAINING window of it. -/
theorem State.domain_dropRef_of_not_freed {h : Handle} {s : State}
    (hn : (s.window h.slot).generation ≠ h.generation ∨ (s.window h.slot).state ≠ .draining ∨
      (s.window h.slot).refs - 1 ≠ 0) : (s.dropRef h).domains = s.domains ∧ (s.dropRef h).events = s.events := by
  unfold State.dropRef
  dsimp only
  split
  · exact ⟨rfl, rfl⟩
  · next hg =>
    rw [if_neg]
    · exact ⟨rfl, rfl⟩
    · rintro ⟨h1, h2⟩
      rcases hn with h3 | h3 | h3
      · exact hg h3
      · exact h3 h1
      · exact h3 h2

/-! ## Notices (R38) -/

@[simp] theorem State.pendNotice_windows (d : DomId) (skip : Option LinkId) (s : State) : (s.pendNotice d skip).windows = s.windows := by
  rfl
@[simp] theorem State.pendNotice_domains (d : DomId) (skip : Option LinkId) (s : State) : (s.pendNotice d skip).domains = s.domains := by
  rfl
@[simp] theorem State.pendNotice_bindings (d : DomId) (skip : Option LinkId) (s : State) : (s.pendNotice d skip).bindings = s.bindings := by
  rfl
@[simp] theorem State.pendNotice_entries (d : DomId) (skip : Option LinkId) (s : State) : (s.pendNotice d skip).entries = s.entries := by
  rfl
@[simp] theorem State.pendNotice_waiting (d : DomId) (skip : Option LinkId) (s : State) : (s.pendNotice d skip).waiting = s.waiting := by
  rfl
@[simp] theorem State.pendNotice_fabric (d : DomId) (skip : Option LinkId) (s : State) : (s.pendNotice d skip).fabric = s.fabric := by
  rfl
@[simp] theorem State.pendNotice_engine (d : DomId) (skip : Option LinkId) (s : State) : (s.pendNotice d skip).engine = s.engine := by
  rfl
@[simp] theorem State.pendNotice_mgmt (d : DomId) (skip : Option LinkId) (s : State) : (s.pendNotice d skip).mgmt = s.mgmt := by
  rfl
@[simp] theorem State.pendNotice_events (d : DomId) (skip : Option LinkId) (s : State) : (s.pendNotice d skip).events = s.events := by
  rfl
@[simp] theorem State.pendNotice_sent (d : DomId) (skip : Option LinkId) (s : State) : (s.pendNotice d skip).sent = s.sent := by
  rfl
@[simp] theorem State.pendNotice_fabricSent (d : DomId) (skip : Option LinkId) (s : State) : (s.pendNotice d skip).fabricSent = s.fabricSent := by
  rfl
@[simp] theorem State.pendNotice_now (d : DomId) (skip : Option LinkId) (s : State) : (s.pendNotice d skip).now = s.now := by
  rfl
@[simp] theorem State.pendNotice_pending (d : DomId) (skip : Option LinkId) (s : State) : (s.pendNotice d skip).pending = s.pending := by
  rfl

/-- What the pending of a notice leaves in each port: only the pending-notice set grows. -/
theorem State.port_pendNotice (d : DomId) (skip : Option LinkId) (l : LinkId) (s : State) :
    (s.pendNotice d skip).port l =
      if skip = some l then s.port l
      else { s.port l with
        noticeSet := StreamSet.union (s.port l).noticeSet (boundStreams (s.bindings[l]) d) } := by
  simp [State.port_eq, State.pendNotice]

/-- A stream is in the set after a notice is pended when it was before, or is bound to the domain. -/
theorem State.noticeSet_pendNotice (d : DomId) (skip : Option LinkId) (l : LinkId) (st : DataStream) (s : State) :
    ((s.pendNotice d skip).port l).noticeSet[st] =
      ((s.port l).noticeSet[st] || (decide (skip ≠ some l) && decide ((s.stream l st).bound = some d))) := by
  rw [State.port_pendNotice]
  by_cases h : skip = some l
  · simp [h]
  · simp [h, StreamSet.union, boundStreams, State.stream_eq]
    rfl

@[simp] theorem State.noticeIfSelf_windows (w : Window) (s : State) : (s.noticeIfSelf w).windows = s.windows := by
  unfold State.noticeIfSelf; split <;> rfl
@[simp] theorem State.noticeIfSelf_domains (w : Window) (s : State) : (s.noticeIfSelf w).domains = s.domains := by
  unfold State.noticeIfSelf; split <;> rfl
@[simp] theorem State.noticeIfSelf_bindings (w : Window) (s : State) : (s.noticeIfSelf w).bindings = s.bindings := by
  unfold State.noticeIfSelf; split <;> rfl
@[simp] theorem State.noticeIfSelf_entries (w : Window) (s : State) : (s.noticeIfSelf w).entries = s.entries := by
  unfold State.noticeIfSelf; split <;> rfl
@[simp] theorem State.noticeIfSelf_waiting (w : Window) (s : State) : (s.noticeIfSelf w).waiting = s.waiting := by
  unfold State.noticeIfSelf; split <;> rfl
@[simp] theorem State.noticeIfSelf_fabric (w : Window) (s : State) : (s.noticeIfSelf w).fabric = s.fabric := by
  unfold State.noticeIfSelf; split <;> rfl
@[simp] theorem State.noticeIfSelf_engine (w : Window) (s : State) : (s.noticeIfSelf w).engine = s.engine := by
  unfold State.noticeIfSelf; split <;> rfl
@[simp] theorem State.noticeIfSelf_mgmt (w : Window) (s : State) : (s.noticeIfSelf w).mgmt = s.mgmt := by
  unfold State.noticeIfSelf; split <;> rfl
@[simp] theorem State.noticeIfSelf_events (w : Window) (s : State) : (s.noticeIfSelf w).events = s.events := by
  unfold State.noticeIfSelf; split <;> rfl
@[simp] theorem State.noticeIfSelf_sent (w : Window) (s : State) : (s.noticeIfSelf w).sent = s.sent := by
  unfold State.noticeIfSelf; split <;> rfl
@[simp] theorem State.noticeIfSelf_fabricSent (w : Window) (s : State) : (s.noticeIfSelf w).fabricSent = s.fabricSent := by
  unfold State.noticeIfSelf; split <;> rfl
@[simp] theorem State.noticeIfSelf_now (w : Window) (s : State) : (s.noticeIfSelf w).now = s.now := by
  unfold State.noticeIfSelf; split <;> rfl
@[simp] theorem State.noticeIfSelf_pending (w : Window) (s : State) : (s.noticeIfSelf w).pending = s.pending := by
  unfold State.noticeIfSelf; split <;> rfl
@[simp] theorem State.selfChanged_windows (q : CtlRequest) (d : DomId) (s : State) : (s.selfChanged q d).windows = s.windows := by
  rfl
@[simp] theorem State.selfChanged_domains (q : CtlRequest) (d : DomId) (s : State) : (s.selfChanged q d).domains = s.domains := by
  rfl
@[simp] theorem State.selfChanged_bindings (q : CtlRequest) (d : DomId) (s : State) : (s.selfChanged q d).bindings = s.bindings := by
  rfl
@[simp] theorem State.selfChanged_entries (q : CtlRequest) (d : DomId) (s : State) : (s.selfChanged q d).entries = s.entries := by
  rfl
@[simp] theorem State.selfChanged_waiting (q : CtlRequest) (d : DomId) (s : State) : (s.selfChanged q d).waiting = s.waiting := by
  rfl
@[simp] theorem State.selfChanged_fabric (q : CtlRequest) (d : DomId) (s : State) : (s.selfChanged q d).fabric = s.fabric := by
  rfl
@[simp] theorem State.selfChanged_engine (q : CtlRequest) (d : DomId) (s : State) : (s.selfChanged q d).engine = s.engine := by
  rfl
@[simp] theorem State.selfChanged_mgmt (q : CtlRequest) (d : DomId) (s : State) : (s.selfChanged q d).mgmt = s.mgmt := by
  rfl
@[simp] theorem State.selfChanged_sent (q : CtlRequest) (d : DomId) (s : State) : (s.selfChanged q d).sent = s.sent := by
  rfl
@[simp] theorem State.selfChanged_fabricSent (q : CtlRequest) (d : DomId) (s : State) : (s.selfChanged q d).fabricSent = s.fabricSent := by
  rfl
@[simp] theorem State.selfChanged_now (q : CtlRequest) (d : DomId) (s : State) : (s.selfChanged q d).now = s.now := by
  rfl
@[simp] theorem State.selfChanged_pending (q : CtlRequest) (d : DomId) (s : State) : (s.selfChanged q d).pending = s.pending := by
  rfl

end Sys2Proof.Machine
end

