-- ==== Sys2Proof/Laws/Tracker.lean ====
section
/-! SUPPORT. What the ending of tracker entries and the changes of a resolution leave in each field: the cases of
`endEntry`, the fields none of these operations touch, and the entries that are FREE afterwards. -/

namespace Sys2Proof.Machine

/-! ## Ending one entry (R97, R98, R99, R102, R103, R105) -/

theorem State.endEntry_free {fate : TagFate} {l : LinkId} {e : EntryNo} {s : State} (h : s.entry l e = .free) :
    s.endEntry fate l e = s := by
  simp only [State.endEntry, h]

theorem State.endEntry_waitTag {fate : TagFate} {l : LinkId} {e : EntryNo} {s : State} {r : EntryReq}
    (h : s.entry l e = .waitTag r) : s.endEntry fate l e =
      ((s.setEntry l e .free).setWaiting l ((s.waitList l).filter (fun j => decide (j ≠ e)))).dropRef r.window := by
  simp only [State.endEntry, h]

theorem State.endEntry_issued {fate : TagFate} {l : LinkId} {e : EntryNo} {s : State} {r : EntryReq} {g : TagNo}
    {dl : Nat} (h : s.entry l e = .issued r g dl) : s.endEntry fate l e =
      ((s.setEntry l e .free).setTag g (fate.cond r.target)).dropRef r.window := by
  simp only [State.endEntry, h]

@[simp] theorem State.endEntry_bindings (fate : TagFate) (l : LinkId) (e : EntryNo) (s : State) : (s.endEntry fate l e).bindings = s.bindings := by
  unfold State.endEntry; split <;> simp
@[simp] theorem State.endEntry_ports (fate : TagFate) (l : LinkId) (e : EntryNo) (s : State) : (s.endEntry fate l e).ports = s.ports := by
  unfold State.endEntry; split <;> simp
@[simp] theorem State.endEntry_engine (fate : TagFate) (l : LinkId) (e : EntryNo) (s : State) : (s.endEntry fate l e).engine = s.engine := by
  unfold State.endEntry; split <;> simp
@[simp] theorem State.endEntry_mgmt (fate : TagFate) (l : LinkId) (e : EntryNo) (s : State) : (s.endEntry fate l e).mgmt = s.mgmt := by
  unfold State.endEntry; split <;> simp
@[simp] theorem State.endEntry_sent (fate : TagFate) (l : LinkId) (e : EntryNo) (s : State) : (s.endEntry fate l e).sent = s.sent := by
  unfold State.endEntry; split <;> simp
@[simp] theorem State.endEntry_fabricSent (fate : TagFate) (l : LinkId) (e : EntryNo) (s : State) : (s.endEntry fate l e).fabricSent = s.fabricSent := by
  unfold State.endEntry; split <;> simp
@[simp] theorem State.endEntry_now (fate : TagFate) (l : LinkId) (e : EntryNo) (s : State) : (s.endEntry fate l e).now = s.now := by
  unfold State.endEntry; split <;> simp
@[simp] theorem State.endEntry_pending (fate : TagFate) (l : LinkId) (e : EntryNo) (s : State) : (s.endEntry fate l e).pending = s.pending := by
  unfold State.endEntry; split <;> simp

/-- The ended entry is FREE and every other entry stays. -/
theorem State.entry_endEntry (fate : TagFate) (l m : LinkId) (e f : EntryNo) (s : State) :
    (s.endEntry fate l e).entry m f = if l = m ∧ e = f then .free else s.entry m f := by
  cases h : s.entry l e with
  | free =>
    rw [State.endEntry_free h]
    split
    · next hh =>
      obtain ⟨rfl, rfl⟩ := hh
      exact h
    · rfl
  | waitTag r =>
    rw [State.endEntry_waitTag h, State.entry_eq, State.dropRef_entries, State.setWaiting_entries, ← State.entry_eq,
      State.entry_setEntry]
  | issued r g dl =>
    rw [State.endEntry_issued h, State.entry_eq, State.dropRef_entries, State.setTag_entries, ← State.entry_eq,
      State.entry_setEntry]

@[simp] theorem State.endWithReply_bindings (fate : TagFate) (answer : EntryReq → DataAnswer) (l : LinkId) (e : EntryNo) (s : State) : (s.endWithReply fate answer l e).bindings = s.bindings := by
  unfold State.endWithReply; split <;> simp
@[simp] theorem State.endWithReply_engine (fate : TagFate) (answer : EntryReq → DataAnswer) (l : LinkId) (e : EntryNo) (s : State) : (s.endWithReply fate answer l e).engine = s.engine := by
  unfold State.endWithReply; split <;> simp
@[simp] theorem State.endWithReply_mgmt (fate : TagFate) (answer : EntryReq → DataAnswer) (l : LinkId) (e : EntryNo) (s : State) : (s.endWithReply fate answer l e).mgmt = s.mgmt := by
  unfold State.endWithReply; split <;> simp
@[simp] theorem State.endWithReply_sent (fate : TagFate) (answer : EntryReq → DataAnswer) (l : LinkId) (e : EntryNo) (s : State) : (s.endWithReply fate answer l e).sent = s.sent := by
  unfold State.endWithReply; split <;> simp
@[simp] theorem State.endWithReply_fabricSent (fate : TagFate) (answer : EntryReq → DataAnswer) (l : LinkId) (e : EntryNo) (s : State) : (s.endWithReply fate answer l e).fabricSent = s.fabricSent := by
  unfold State.endWithReply; split <;> simp
@[simp] theorem State.endWithReply_now (fate : TagFate) (answer : EntryReq → DataAnswer) (l : LinkId) (e : EntryNo) (s : State) : (s.endWithReply fate answer l e).now = s.now := by
  unfold State.endWithReply; split <;> simp
@[simp] theorem State.endWithReply_pending (fate : TagFate) (answer : EntryReq → DataAnswer) (l : LinkId) (e : EntryNo) (s : State) : (s.endWithReply fate answer l e).pending = s.pending := by
  unfold State.endWithReply; split <;> simp

theorem State.entry_endWithReply (fate : TagFate) (answer : EntryReq → DataAnswer) (l m : LinkId) (e f : EntryNo)
    (s : State) : (s.endWithReply fate answer l e).entry m f = if l = m ∧ e = f then .free else s.entry m f := by
  unfold State.endWithReply
  split
  · next h =>
    split
    · next hh =>
      obtain ⟨rfl, rfl⟩ := hh
      cases hx : s.entry l e with
      | free => rfl
      | waitTag r => simp [hx, Entry.request?] at h
      | issued r g dl => simp [hx, Entry.request?] at h
    · rfl
  · rw [State.entry_eq, State.handData_entries, ← State.entry_eq, State.entry_endEntry]

/-- What an ending with reply leaves in each port: the reply joins the outgoing replies of the entry's link. -/
theorem State.port_endWithReply {fate : TagFate} {answer : EntryReq → DataAnswer} {l m : LinkId} {e : EntryNo}
    {s : State} {r : EntryReq} (h : (s.entry l e).request? = some r) :
    (s.endWithReply fate answer l e).port m =
      if l = m then { s.port l with outData := (s.port l).outData ++ [⟨r.tag, r.stream, answer r⟩] } else s.port m := by
  simp only [State.endWithReply, h, State.handData]
  rw [State.port_modPort, State.port_eq, State.port_eq, State.endEntry_ports, ← State.port_eq, ← State.port_eq]

/-! ## Ending all entries of a link (R105) -/

theorem State.foldl_endEntry_keeps {α : Type} (read : State → α) (fate : TagFate) (l : LinkId)
    (h : ∀ (t : State) (e : EntryNo), read (t.endEntry fate l e) = read t) (es : List EntryNo) (s : State) :
    read (es.foldl (fun s e => s.endEntry fate l e) s) = read s := by
  induction es generalizing s with
  | nil => rfl
  | cons a rest ih => rw [List.foldl_cons, ih, h]

@[simp] theorem State.endLinkEntries_bindings (l : LinkId) (s : State) : (s.endLinkEntries l).bindings = s.bindings := by
  unfold State.endLinkEntries
  rw [State.setWaiting_bindings]
  exact State.foldl_endEntry_keeps (·.bindings) .quarantined l (fun t e => State.endEntry_bindings _ _ _ t) _ s
@[simp] theorem State.endLinkEntries_ports (l : LinkId) (s : State) : (s.endLinkEntries l).ports = s.ports := by
  unfold State.endLinkEntries
  rw [State.setWaiting_ports]
  exact State.foldl_endEntry_keeps (·.ports) .quarantined l (fun t e => State.endEntry_ports _ _ _ t) _ s
@[simp] theorem State.endLinkEntries_engine (l : LinkId) (s : State) : (s.endLinkEntries l).engine = s.engine := by
  unfold State.endLinkEntries
  rw [State.setWaiting_engine]
  exact State.foldl_endEntry_keeps (·.engine) .quarantined l (fun t e => State.endEntry_engine _ _ _ t) _ s
@[simp] theorem State.endLinkEntries_mgmt (l : LinkId) (s : State) : (s.endLinkEntries l).mgmt = s.mgmt := by
  unfold State.endLinkEntries
  rw [State.setWaiting_mgmt]
  exact State.foldl_endEntry_keeps (·.mgmt) .quarantined l (fun t e => State.endEntry_mgmt _ _ _ t) _ s
@[simp] theorem State.endLinkEntries_sent (l : LinkId) (s : State) : (s.endLinkEntries l).sent = s.sent := by
  unfold State.endLinkEntries
  rw [State.setWaiting_sent]
  exact State.foldl_endEntry_keeps (·.sent) .quarantined l (fun t e => State.endEntry_sent _ _ _ t) _ s
@[simp] theorem State.endLinkEntries_fabricSent (l : LinkId) (s : State) : (s.endLinkEntries l).fabricSent = s.fabricSent := by
  unfold State.endLinkEntries
  rw [State.setWaiting_fabricSent]
  exact State.foldl_endEntry_keeps (·.fabricSent) .quarantined l (fun t e => State.endEntry_fabricSent _ _ _ t) _ s
@[simp] theorem State.endLinkEntries_now (l : LinkId) (s : State) : (s.endLinkEntries l).now = s.now := by
  unfold State.endLinkEntries
  rw [State.setWaiting_now]
  exact State.foldl_endEntry_keeps (·.now) .quarantined l (fun t e => State.endEntry_now _ _ _ t) _ s
@[simp] theorem State.endLinkEntries_pending (l : LinkId) (s : State) : (s.endLinkEntries l).pending = s.pending := by
  unfold State.endLinkEntries
  rw [State.setWaiting_pending]
  exact State.foldl_endEntry_keeps (·.pending) .quarantined l (fun t e => State.endEntry_pending _ _ _ t) _ s

theorem State.entry_foldl_endEntry (fate : TagFate) (l m : LinkId) (f : EntryNo) (es : List EntryNo) (s : State) :
    (es.foldl (fun s e => s.endEntry fate l e) s).entry m f = if l = m ∧ f ∈ es then .free else s.entry m f := by
  induction es generalizing s with
  | nil => simp
  | cons a rest ih =>
    rw [List.foldl_cons, ih, State.entry_endEntry]
    by_cases h1 : l = m <;> by_cases h2 : f ∈ rest <;> by_cases h3 : a = f <;>
      simp [h1, h2, h3, eq_comm]
    intro h4
    exact absurd h4.symm h3

/-- Every entry of the link is FREE afterwards, and every other link's entries stay (R105). -/
theorem State.entry_endLinkEntries (l m : LinkId) (f : EntryNo) (s : State) :
    (s.endLinkEntries l).entry m f = if l = m then .free else s.entry m f := by
  unfold State.endLinkEntries
  rw [State.entry_eq, State.setWaiting_entries, ← State.entry_eq, State.entry_foldl_endEntry]
  simp

/-! ## The changes of a resolution -/

@[simp] theorem State.countFault_windows (d : DomId) (kind : FaultKind) (q : Request) (s : State) : (s.countFault d kind q).windows = s.windows := by
  unfold State.countFault; dsimp only; split <;> simp
@[simp] theorem State.countFault_bindings (d : DomId) (kind : FaultKind) (q : Request) (s : State) : (s.countFault d kind q).bindings = s.bindings := by
  unfold State.countFault; dsimp only; split <;> simp
@[simp] theorem State.countFault_entries (d : DomId) (kind : FaultKind) (q : Request) (s : State) : (s.countFault d kind q).entries = s.entries := by
  unfold State.countFault; dsimp only; split <;> simp
@[simp] theorem State.countFault_waiting (d : DomId) (kind : FaultKind) (q : Request) (s : State) : (s.countFault d kind q).waiting = s.waiting := by
  unfold State.countFault; dsimp only; split <;> simp
@[simp] theorem State.countFault_fabric (d : DomId) (kind : FaultKind) (q : Request) (s : State) : (s.countFault d kind q).fabric = s.fabric := by
  unfold State.countFault; dsimp only; split <;> simp
@[simp] theorem State.countFault_engine (d : DomId) (kind : FaultKind) (q : Request) (s : State) : (s.countFault d kind q).engine = s.engine := by
  unfold State.countFault; dsimp only; split <;> simp
@[simp] theorem State.countFault_mgmt (d : DomId) (kind : FaultKind) (q : Request) (s : State) : (s.countFault d kind q).mgmt = s.mgmt := by
  unfold State.countFault; dsimp only; split <;> simp
@[simp] theorem State.countFault_sent (d : DomId) (kind : FaultKind) (q : Request) (s : State) : (s.countFault d kind q).sent = s.sent := by
  unfold State.countFault; dsimp only; split <;> simp
@[simp] theorem State.countFault_fabricSent (d : DomId) (kind : FaultKind) (q : Request) (s : State) : (s.countFault d kind q).fabricSent = s.fabricSent := by
  unfold State.countFault; dsimp only; split <;> simp
@[simp] theorem State.countFault_now (d : DomId) (kind : FaultKind) (q : Request) (s : State) : (s.countFault d kind q).now = s.now := by
  unfold State.countFault; dsimp only; split <;> simp
@[simp] theorem State.countFault_pending (d : DomId) (kind : FaultKind) (q : Request) (s : State) : (s.countFault d kind q).pending = s.pending := by
  unfold State.countFault; dsimp only; split <;> simp
@[simp] theorem State.setAlert_domains (i : SlotId) (s : State) : (s.setAlert i).domains = s.domains := by
  unfold State.setAlert; dsimp only; split <;> simp
@[simp] theorem State.setAlert_bindings (i : SlotId) (s : State) : (s.setAlert i).bindings = s.bindings := by
  unfold State.setAlert; dsimp only; split <;> simp
@[simp] theorem State.setAlert_ports (i : SlotId) (s : State) : (s.setAlert i).ports = s.ports := by
  unfold State.setAlert; dsimp only; split <;> simp
@[simp] theorem State.setAlert_entries (i : SlotId) (s : State) : (s.setAlert i).entries = s.entries := by
  unfold State.setAlert; dsimp only; split <;> simp
@[simp] theorem State.setAlert_waiting (i : SlotId) (s : State) : (s.setAlert i).waiting = s.waiting := by
  unfold State.setAlert; dsimp only; split <;> simp
@[simp] theorem State.setAlert_fabric (i : SlotId) (s : State) : (s.setAlert i).fabric = s.fabric := by
  unfold State.setAlert; dsimp only; split <;> simp
@[simp] theorem State.setAlert_engine (i : SlotId) (s : State) : (s.setAlert i).engine = s.engine := by
  unfold State.setAlert; dsimp only; split <;> simp
@[simp] theorem State.setAlert_mgmt (i : SlotId) (s : State) : (s.setAlert i).mgmt = s.mgmt := by
  unfold State.setAlert; dsimp only; split <;> simp
@[simp] theorem State.setAlert_sent (i : SlotId) (s : State) : (s.setAlert i).sent = s.sent := by
  unfold State.setAlert; dsimp only; split <;> simp
@[simp] theorem State.setAlert_fabricSent (i : SlotId) (s : State) : (s.setAlert i).fabricSent = s.fabricSent := by
  unfold State.setAlert; dsimp only; split <;> simp
@[simp] theorem State.setAlert_now (i : SlotId) (s : State) : (s.setAlert i).now = s.now := by
  unfold State.setAlert; dsimp only; split <;> simp
@[simp] theorem State.setAlert_pending (i : SlotId) (s : State) : (s.setAlert i).pending = s.pending := by
  unfold State.setAlert; dsimp only; split <;> simp
@[simp] theorem State.charge_domains (i : SlotId) (len : Nat) (s : State) : (s.charge i len).domains = s.domains := by
  unfold State.charge; dsimp only; split <;> [rfl; (split <;> simp)]
@[simp] theorem State.charge_bindings (i : SlotId) (len : Nat) (s : State) : (s.charge i len).bindings = s.bindings := by
  unfold State.charge; dsimp only; split <;> [rfl; (split <;> simp)]
@[simp] theorem State.charge_ports (i : SlotId) (len : Nat) (s : State) : (s.charge i len).ports = s.ports := by
  unfold State.charge; dsimp only; split <;> [rfl; (split <;> simp)]
@[simp] theorem State.charge_entries (i : SlotId) (len : Nat) (s : State) : (s.charge i len).entries = s.entries := by
  unfold State.charge; dsimp only; split <;> [rfl; (split <;> simp)]
@[simp] theorem State.charge_waiting (i : SlotId) (len : Nat) (s : State) : (s.charge i len).waiting = s.waiting := by
  unfold State.charge; dsimp only; split <;> [rfl; (split <;> simp)]
@[simp] theorem State.charge_fabric (i : SlotId) (len : Nat) (s : State) : (s.charge i len).fabric = s.fabric := by
  unfold State.charge; dsimp only; split <;> [rfl; (split <;> simp)]
@[simp] theorem State.charge_engine (i : SlotId) (len : Nat) (s : State) : (s.charge i len).engine = s.engine := by
  unfold State.charge; dsimp only; split <;> [rfl; (split <;> simp)]
@[simp] theorem State.charge_mgmt (i : SlotId) (len : Nat) (s : State) : (s.charge i len).mgmt = s.mgmt := by
  unfold State.charge; dsimp only; split <;> [rfl; (split <;> simp)]
@[simp] theorem State.charge_sent (i : SlotId) (len : Nat) (s : State) : (s.charge i len).sent = s.sent := by
  unfold State.charge; dsimp only; split <;> [rfl; (split <;> simp)]
@[simp] theorem State.charge_fabricSent (i : SlotId) (len : Nat) (s : State) : (s.charge i len).fabricSent = s.fabricSent := by
  unfold State.charge; dsimp only; split <;> [rfl; (split <;> simp)]
@[simp] theorem State.charge_now (i : SlotId) (len : Nat) (s : State) : (s.charge i len).now = s.now := by
  unfold State.charge; dsimp only; split <;> [rfl; (split <;> simp)]
@[simp] theorem State.charge_pending (i : SlotId) (len : Nat) (s : State) : (s.charge i len).pending = s.pending := by
  unfold State.charge; dsimp only; split <;> [rfl; (split <;> simp)]
@[simp] theorem State.noteUnbound_windows (l : LinkId) (st : DataStream) (s : State) : (s.noteUnbound l st).windows = s.windows := by
  unfold State.noteUnbound; dsimp only; split <;> simp
@[simp] theorem State.noteUnbound_domains (l : LinkId) (st : DataStream) (s : State) : (s.noteUnbound l st).domains = s.domains := by
  unfold State.noteUnbound; dsimp only; split <;> simp
@[simp] theorem State.noteUnbound_bindings (l : LinkId) (st : DataStream) (s : State) : (s.noteUnbound l st).bindings = s.bindings := by
  unfold State.noteUnbound; dsimp only; split <;> simp
@[simp] theorem State.noteUnbound_entries (l : LinkId) (st : DataStream) (s : State) : (s.noteUnbound l st).entries = s.entries := by
  unfold State.noteUnbound; dsimp only; split <;> simp
@[simp] theorem State.noteUnbound_waiting (l : LinkId) (st : DataStream) (s : State) : (s.noteUnbound l st).waiting = s.waiting := by
  unfold State.noteUnbound; dsimp only; split <;> simp
@[simp] theorem State.noteUnbound_fabric (l : LinkId) (st : DataStream) (s : State) : (s.noteUnbound l st).fabric = s.fabric := by
  unfold State.noteUnbound; dsimp only; split <;> simp
@[simp] theorem State.noteUnbound_engine (l : LinkId) (st : DataStream) (s : State) : (s.noteUnbound l st).engine = s.engine := by
  unfold State.noteUnbound; dsimp only; split <;> simp
@[simp] theorem State.noteUnbound_mgmt (l : LinkId) (st : DataStream) (s : State) : (s.noteUnbound l st).mgmt = s.mgmt := by
  unfold State.noteUnbound; dsimp only; split <;> simp
@[simp] theorem State.noteUnbound_sent (l : LinkId) (st : DataStream) (s : State) : (s.noteUnbound l st).sent = s.sent := by
  unfold State.noteUnbound; dsimp only; split <;> simp
@[simp] theorem State.noteUnbound_fabricSent (l : LinkId) (st : DataStream) (s : State) : (s.noteUnbound l st).fabricSent = s.fabricSent := by
  unfold State.noteUnbound; dsimp only; split <;> simp
@[simp] theorem State.noteUnbound_now (l : LinkId) (st : DataStream) (s : State) : (s.noteUnbound l st).now = s.now := by
  unfold State.noteUnbound; dsimp only; split <;> simp
@[simp] theorem State.noteUnbound_pending (l : LinkId) (st : DataStream) (s : State) : (s.noteUnbound l st).pending = s.pending := by
  unfold State.noteUnbound; dsimp only; split <;> simp
@[simp] theorem State.plainChanges_bindings (q : Request) (r : Ruling) (s : State) : (s.plainChanges q r).bindings = s.bindings := by
  unfold State.plainChanges; split <;> simp
@[simp] theorem State.plainChanges_entries (q : Request) (r : Ruling) (s : State) : (s.plainChanges q r).entries = s.entries := by
  unfold State.plainChanges; split <;> simp
@[simp] theorem State.plainChanges_waiting (q : Request) (r : Ruling) (s : State) : (s.plainChanges q r).waiting = s.waiting := by
  unfold State.plainChanges; split <;> simp
@[simp] theorem State.plainChanges_fabric (q : Request) (r : Ruling) (s : State) : (s.plainChanges q r).fabric = s.fabric := by
  unfold State.plainChanges; split <;> simp
@[simp] theorem State.plainChanges_engine (q : Request) (r : Ruling) (s : State) : (s.plainChanges q r).engine = s.engine := by
  unfold State.plainChanges; split <;> simp
@[simp] theorem State.plainChanges_mgmt (q : Request) (r : Ruling) (s : State) : (s.plainChanges q r).mgmt = s.mgmt := by
  unfold State.plainChanges; split <;> simp
@[simp] theorem State.plainChanges_sent (q : Request) (r : Ruling) (s : State) : (s.plainChanges q r).sent = s.sent := by
  unfold State.plainChanges; split <;> simp
@[simp] theorem State.plainChanges_fabricSent (q : Request) (r : Ruling) (s : State) : (s.plainChanges q r).fabricSent = s.fabricSent := by
  unfold State.plainChanges; split <;> simp
@[simp] theorem State.plainChanges_now (q : Request) (r : Ruling) (s : State) : (s.plainChanges q r).now = s.now := by
  unfold State.plainChanges; split <;> simp
@[simp] theorem State.plainChanges_pending (q : Request) (r : Ruling) (s : State) : (s.plainChanges q r).pending = s.pending := by
  unfold State.plainChanges; split <;> simp
@[simp] theorem State.specChanges_bindings (q : Request) (r : Ruling) (s : State) : (s.specChanges q r).bindings = s.bindings := by
  unfold State.specChanges; split <;> simp
@[simp] theorem State.specChanges_entries (q : Request) (r : Ruling) (s : State) : (s.specChanges q r).entries = s.entries := by
  unfold State.specChanges; split <;> simp
@[simp] theorem State.specChanges_waiting (q : Request) (r : Ruling) (s : State) : (s.specChanges q r).waiting = s.waiting := by
  unfold State.specChanges; split <;> simp
@[simp] theorem State.specChanges_fabric (q : Request) (r : Ruling) (s : State) : (s.specChanges q r).fabric = s.fabric := by
  unfold State.specChanges; split <;> simp
@[simp] theorem State.specChanges_engine (q : Request) (r : Ruling) (s : State) : (s.specChanges q r).engine = s.engine := by
  unfold State.specChanges; split <;> simp
@[simp] theorem State.specChanges_mgmt (q : Request) (r : Ruling) (s : State) : (s.specChanges q r).mgmt = s.mgmt := by
  unfold State.specChanges; split <;> simp
@[simp] theorem State.specChanges_sent (q : Request) (r : Ruling) (s : State) : (s.specChanges q r).sent = s.sent := by
  unfold State.specChanges; split <;> simp
@[simp] theorem State.specChanges_fabricSent (q : Request) (r : Ruling) (s : State) : (s.specChanges q r).fabricSent = s.fabricSent := by
  unfold State.specChanges; split <;> simp
@[simp] theorem State.specChanges_now (q : Request) (r : Ruling) (s : State) : (s.specChanges q r).now = s.now := by
  unfold State.specChanges; split <;> simp
@[simp] theorem State.specChanges_pending (q : Request) (r : Ruling) (s : State) : (s.specChanges q r).pending = s.pending := by
  unfold State.specChanges; split <;> simp
@[simp] theorem State.resolutionChanges_bindings (q : Request) (r : Ruling) (s : State) : (s.resolutionChanges q r).bindings = s.bindings := by
  unfold State.resolutionChanges; split <;> simp
@[simp] theorem State.resolutionChanges_entries (q : Request) (r : Ruling) (s : State) : (s.resolutionChanges q r).entries = s.entries := by
  unfold State.resolutionChanges; split <;> simp
@[simp] theorem State.resolutionChanges_waiting (q : Request) (r : Ruling) (s : State) : (s.resolutionChanges q r).waiting = s.waiting := by
  unfold State.resolutionChanges; split <;> simp
@[simp] theorem State.resolutionChanges_fabric (q : Request) (r : Ruling) (s : State) : (s.resolutionChanges q r).fabric = s.fabric := by
  unfold State.resolutionChanges; split <;> simp
@[simp] theorem State.resolutionChanges_engine (q : Request) (r : Ruling) (s : State) : (s.resolutionChanges q r).engine = s.engine := by
  unfold State.resolutionChanges; split <;> simp
@[simp] theorem State.resolutionChanges_mgmt (q : Request) (r : Ruling) (s : State) : (s.resolutionChanges q r).mgmt = s.mgmt := by
  unfold State.resolutionChanges; split <;> simp
@[simp] theorem State.resolutionChanges_sent (q : Request) (r : Ruling) (s : State) : (s.resolutionChanges q r).sent = s.sent := by
  unfold State.resolutionChanges; split <;> simp
@[simp] theorem State.resolutionChanges_fabricSent (q : Request) (r : Ruling) (s : State) : (s.resolutionChanges q r).fabricSent = s.fabricSent := by
  unfold State.resolutionChanges; split <;> simp
@[simp] theorem State.resolutionChanges_now (q : Request) (r : Ruling) (s : State) : (s.resolutionChanges q r).now = s.now := by
  unfold State.resolutionChanges; split <;> simp
@[simp] theorem State.resolutionChanges_pending (q : Request) (r : Ruling) (s : State) : (s.resolutionChanges q r).pending = s.pending := by
  unfold State.resolutionChanges; split <;> simp

/-- A speculative read that is not admitted changes nothing (R55). -/
theorem State.specChanges_of_not_admitted {q : Request} {r : Ruling} {s : State} (h : ∀ d i, r ≠ .admits d i) :
    s.specChanges q r = s := by
  cases r <;> simp [State.specChanges] at h ⊢

end Sys2Proof.Machine
end

