-- ==== Sys2Proof/Laws/Links.lean ====
section
/-! SUPPORT. What the shared operations on links leave in each field, and that every event of the part answers a next
state. -/

namespace Sys2Proof.Machine

/-! ## Leaving UP (R169) -/

@[simp] theorem State.leaveUp_bindings (l : LinkId) (s : State) : (s.leaveUp l).bindings = s.bindings := by
  unfold State.leaveUp; dsimp only; split <;> simp
@[simp] theorem State.leaveUp_mgmt (l : LinkId) (s : State) : (s.leaveUp l).mgmt = s.mgmt := by
  unfold State.leaveUp; dsimp only; split <;> simp
@[simp] theorem State.leaveUp_sent (l : LinkId) (s : State) : (s.leaveUp l).sent = s.sent := by
  unfold State.leaveUp; dsimp only; split <;> simp
@[simp] theorem State.leaveUp_fabricSent (l : LinkId) (s : State) : (s.leaveUp l).fabricSent = s.fabricSent := by
  unfold State.leaveUp; dsimp only; split <;> simp
@[simp] theorem State.leaveUp_now (l : LinkId) (s : State) : (s.leaveUp l).now = s.now := by
  unfold State.leaveUp; dsimp only; split <;> simp
@[simp] theorem State.leaveUp_pending (l : LinkId) (s : State) : (s.leaveUp l).pending = s.pending := by
  unfold State.leaveUp; dsimp only; split <;> simp

/-- The port of a link that leaves UP has the reset effects; the other ports stay (R169, R156). -/
theorem State.port_leaveUp (l m : LinkId) (s : State) :
    (s.leaveUp l).port m = if l = m then (s.port l).resetEffects else s.port m := by
  have h : ((s.endLinkEntries l).modPort l LinkPort.resetEffects).port m =
      if l = m then (s.port l).resetEffects else s.port m := by
    rw [State.port_modPort, State.port_eq, State.port_eq, State.endLinkEntries_ports, ← State.port_eq, ← State.port_eq]
  unfold State.leaveUp
  dsimp only
  split
  · rw [State.port_raiseDev, State.port_raiseLink, State.port_setEngine, h]
  · rw [State.port_raiseLink, State.port_setEngine, h]

/-- Every entry of a link that leaves UP is FREE; the other links' entries stay (R105). -/
theorem State.entry_leaveUp (l m : LinkId) (f : EntryNo) (s : State) :
    (s.leaveUp l).entry m f = if l = m then .free else s.entry m f := by
  rw [← State.entry_endLinkEntries]
  unfold State.leaveUp
  dsimp only
  split
  · rw [State.entry_raiseDev, State.entry_raiseLink, State.entry_setEngine, State.entry_modPort]
  · rw [State.entry_raiseLink, State.entry_setEngine, State.entry_modPort]

/-- A link that leaves UP takes its control requests out of the in-band queue (R126). -/
theorem State.engine_leaveUp (l : LinkId) (s : State) : (s.leaveUp l).engine =
    { s.engine with inband := s.engine.inband.filter (fun q => decide (q.link ≠ l)) } := by
  unfold State.leaveUp
  dsimp only
  split <;> simp

/-! ## Training, going down, resetting -/

@[simp] theorem State.enterTraining_windows (l : LinkId) (s : State) : (s.enterTraining l).windows = s.windows := by
  rfl
@[simp] theorem State.enterTraining_domains (l : LinkId) (s : State) : (s.enterTraining l).domains = s.domains := by
  rfl
@[simp] theorem State.enterTraining_bindings (l : LinkId) (s : State) : (s.enterTraining l).bindings = s.bindings := by
  rfl
@[simp] theorem State.enterTraining_entries (l : LinkId) (s : State) : (s.enterTraining l).entries = s.entries := by
  rfl
@[simp] theorem State.enterTraining_waiting (l : LinkId) (s : State) : (s.enterTraining l).waiting = s.waiting := by
  rfl
@[simp] theorem State.enterTraining_fabric (l : LinkId) (s : State) : (s.enterTraining l).fabric = s.fabric := by
  rfl
@[simp] theorem State.enterTraining_engine (l : LinkId) (s : State) : (s.enterTraining l).engine = s.engine := by
  rfl
@[simp] theorem State.enterTraining_mgmt (l : LinkId) (s : State) : (s.enterTraining l).mgmt = s.mgmt := by
  rfl
@[simp] theorem State.enterTraining_events (l : LinkId) (s : State) : (s.enterTraining l).events = s.events := by
  rfl
@[simp] theorem State.enterTraining_fabricSent (l : LinkId) (s : State) : (s.enterTraining l).fabricSent = s.fabricSent := by
  rfl
@[simp] theorem State.enterTraining_now (l : LinkId) (s : State) : (s.enterTraining l).now = s.now := by
  rfl
@[simp] theorem State.enterTraining_pending (l : LinkId) (s : State) : (s.enterTraining l).pending = s.pending := by
  rfl

theorem State.port_enterTraining (l m : LinkId) (s : State) : (s.enterTraining l).port m =
    if l = m then
      { s.port l with state := .training, helloTimer := some (s.now + Config.helloPeriod), handshakeTimer := none }
    else s.port m := by
  unfold State.enterTraining
  rw [State.port_send, State.port_modPort]

@[simp] theorem State.enterDown_windows (l : LinkId) (s : State) : (s.enterDown l).windows = s.windows := by
  unfold State.enterDown; dsimp only; split <;> simp
@[simp] theorem State.enterDown_domains (l : LinkId) (s : State) : (s.enterDown l).domains = s.domains := by
  unfold State.enterDown; dsimp only; split <;> simp
@[simp] theorem State.enterDown_bindings (l : LinkId) (s : State) : (s.enterDown l).bindings = s.bindings := by
  unfold State.enterDown; dsimp only; split <;> simp
@[simp] theorem State.enterDown_entries (l : LinkId) (s : State) : (s.enterDown l).entries = s.entries := by
  unfold State.enterDown; dsimp only; split <;> simp
@[simp] theorem State.enterDown_waiting (l : LinkId) (s : State) : (s.enterDown l).waiting = s.waiting := by
  unfold State.enterDown; dsimp only; split <;> simp
@[simp] theorem State.enterDown_fabric (l : LinkId) (s : State) : (s.enterDown l).fabric = s.fabric := by
  unfold State.enterDown; dsimp only; split <;> simp
@[simp] theorem State.enterDown_engine (l : LinkId) (s : State) : (s.enterDown l).engine = s.engine := by
  unfold State.enterDown; dsimp only; split <;> simp
@[simp] theorem State.enterDown_mgmt (l : LinkId) (s : State) : (s.enterDown l).mgmt = s.mgmt := by
  unfold State.enterDown; dsimp only; split <;> simp
@[simp] theorem State.enterDown_events (l : LinkId) (s : State) : (s.enterDown l).events = s.events := by
  unfold State.enterDown; dsimp only; split <;> simp
@[simp] theorem State.enterDown_fabricSent (l : LinkId) (s : State) : (s.enterDown l).fabricSent = s.fabricSent := by
  unfold State.enterDown; dsimp only; split <;> simp
@[simp] theorem State.enterDown_now (l : LinkId) (s : State) : (s.enterDown l).now = s.now := by
  unfold State.enterDown; dsimp only; split <;> simp
@[simp] theorem State.enterDown_pending (l : LinkId) (s : State) : (s.enterDown l).pending = s.pending := by
  unfold State.enterDown; dsimp only; split <;> simp
@[simp] theorem State.enterDisabled_windows (l : LinkId) (s : State) : (s.enterDisabled l).windows = s.windows := by
  rfl
@[simp] theorem State.enterDisabled_domains (l : LinkId) (s : State) : (s.enterDisabled l).domains = s.domains := by
  rfl
@[simp] theorem State.enterDisabled_bindings (l : LinkId) (s : State) : (s.enterDisabled l).bindings = s.bindings := by
  rfl
@[simp] theorem State.enterDisabled_entries (l : LinkId) (s : State) : (s.enterDisabled l).entries = s.entries := by
  rfl
@[simp] theorem State.enterDisabled_waiting (l : LinkId) (s : State) : (s.enterDisabled l).waiting = s.waiting := by
  rfl
@[simp] theorem State.enterDisabled_fabric (l : LinkId) (s : State) : (s.enterDisabled l).fabric = s.fabric := by
  rfl
@[simp] theorem State.enterDisabled_engine (l : LinkId) (s : State) : (s.enterDisabled l).engine = s.engine := by
  rfl
@[simp] theorem State.enterDisabled_mgmt (l : LinkId) (s : State) : (s.enterDisabled l).mgmt = s.mgmt := by
  rfl
@[simp] theorem State.enterDisabled_events (l : LinkId) (s : State) : (s.enterDisabled l).events = s.events := by
  rfl
@[simp] theorem State.enterDisabled_sent (l : LinkId) (s : State) : (s.enterDisabled l).sent = s.sent := by
  rfl
@[simp] theorem State.enterDisabled_fabricSent (l : LinkId) (s : State) : (s.enterDisabled l).fabricSent = s.fabricSent := by
  rfl
@[simp] theorem State.enterDisabled_now (l : LinkId) (s : State) : (s.enterDisabled l).now = s.now := by
  rfl
@[simp] theorem State.enterDisabled_pending (l : LinkId) (s : State) : (s.enterDisabled l).pending = s.pending := by
  rfl
@[simp] theorem State.partReset_bindings (l : LinkId) (s : State) : (s.partReset l).bindings = s.bindings := by
  simp [State.partReset]
@[simp] theorem State.partReset_mgmt (l : LinkId) (s : State) : (s.partReset l).mgmt = s.mgmt := by
  simp [State.partReset]
@[simp] theorem State.partReset_fabricSent (l : LinkId) (s : State) : (s.partReset l).fabricSent = s.fabricSent := by
  simp [State.partReset]
@[simp] theorem State.partReset_now (l : LinkId) (s : State) : (s.partReset l).now = s.now := by
  simp [State.partReset]
@[simp] theorem State.partReset_pending (l : LinkId) (s : State) : (s.partReset l).pending = s.pending := by
  simp [State.partReset]
@[simp] theorem State.protocolError_bindings (l : LinkId) (c : ErrorCause) (s : State) : (s.protocolError l c).bindings = s.bindings := by
  simp [State.protocolError]
@[simp] theorem State.protocolError_mgmt (l : LinkId) (c : ErrorCause) (s : State) : (s.protocolError l c).mgmt = s.mgmt := by
  simp [State.protocolError]
@[simp] theorem State.protocolError_fabricSent (l : LinkId) (c : ErrorCause) (s : State) : (s.protocolError l c).fabricSent = s.fabricSent := by
  simp [State.protocolError]
@[simp] theorem State.protocolError_now (l : LinkId) (c : ErrorCause) (s : State) : (s.protocolError l c).now = s.now := by
  simp [State.protocolError]
@[simp] theorem State.protocolError_pending (l : LinkId) (c : ErrorCause) (s : State) : (s.protocolError l c).pending = s.pending := by
  simp [State.protocolError]

/-- A link in a part-initiated reset is RESETTING with the handshake timer set (R170). -/
theorem State.port_partReset (l m : LinkId) (s : State) : (s.partReset l).port m =
    if l = m then
      { (s.port l).resetEffects with
        state := .resetting, handshakeTimer := some (s.now + Config.handshakePeriod) }
    else s.port m := by
  unfold State.partReset
  rw [State.port_modPort]
  simp only [State.port_send, State.port_leaveUp]
  split <;> simp

/-! ## Every event goes on -/

/-- Every event answers a next state: nothing in the part faults, and no row is refused. -/
theorem exec_next (c : Instr) (s : State) : ∃ t, exec c s = .next t := by
  cases c <;>
    first
    | exact takeCommand_next _ _ _
    | exact takeControl_next _ _ _
    | exact ⟨_, rfl⟩
    | skip
  case examination l =>
    simp only [exec, execExamination]
    split
    · split <;> exact ⟨_, rfl⟩
    · exact ⟨_, rfl⟩
  case grant =>
    simp only [exec, execGrant]
    split
    · split
      · exact ⟨_, rfl⟩
      · split <;> exact ⟨_, rfl⟩
    · exact ⟨_, rfl⟩
  case completion tag st data =>
    simp only [exec, execCompletion]
    split
    · split <;> exact ⟨_, rfl⟩
    · exact ⟨_, rfl⟩
  case deadlineExpiry l e =>
    simp only [exec, execDeadlineExpiry]
    split <;> exact ⟨_, rfl⟩

end Sys2Proof.Machine
end

