-- ==== Sys2Proof/Laws/OwnWork.lean ====
section
/-! SUPPORT. When the part has work of its own, and which: each search of Machine/OwnWork.lean by the conditions of the
rule it follows (R88, R93, R119, R123, R124, R153, R161, R166, R170). -/

namespace Sys2Proof.Machine

theorem Engine.work_eq_none_iff (e : Engine) : e.work = none ↔ e.slot = none ∧ e.inband = [] := by
  obtain ⟨slot, inband, last⟩ := e
  cases slot <;> cases inband <;> cases last <;> simp [Engine.work, Engine.servesMgmt, Engine.servesInband]

/-- What the engine takes next is the command of the slot or the request at the head of the queue, whichever it serves. -/
theorem Engine.work_cases {e : Engine} {c : Instr} (h : e.work = some c) :
    (∃ x, e.slot = some x ∧ e.servesMgmt = true ∧ c = commandRow x.code) ∨
      (∃ q rest, e.inband = q :: rest ∧ e.servesInband = true ∧ c = controlRow q.op) := by
  unfold Engine.work at h
  split at h
  · next hm =>
    obtain ⟨x, hx, rfl⟩ := Option.map_eq_some_iff.1 h
    exact .inl ⟨x, hx, hm, rfl⟩
  · split at h
    · next hi =>
      obtain ⟨o, ho, rfl⟩ := Option.map_eq_some_iff.1 h
      obtain ⟨rest, hq⟩ := List.head?_eq_some_iff.1 ho
      exact .inr ⟨o, rest, hq, hi, rfl⟩
    · cases h

/-- The codes no command has (R193). -/
theorem commandRow_eq_badCommand_iff (code : BitVec 8) :
    commandRow code = .badCommand ↔ code.toNat = 0 ∨ 0x18 < code.toNat := by
  revert code
  decide +kernel

theorem State.canExamine_iff (s : State) (l : LinkId) : s.canExamine l = true ↔
    (s.port l).state = .up ∧ (s.port l).ingress ≠ [] ∧ ∃ e, s.entry l e = .free := by
  have hfree : ∀ x : Entry, x.isFree = true ↔ x = .free := by
    intro x
    cases x <;> simp [Entry.isFree]
  simp [State.canExamine, State.freeEntry, List.find?_isSome, hfree, and_assoc]

theorem State.canGrant_iff (s : State) : s.canGrant = true ↔ (∃ g, s.tag g = .free) ∧ ∃ l, s.waitList l ≠ [] := by
  have hall : ∀ last l : LinkId, l ∈ searchOrder last := by decide
  simp [State.canGrant, State.freeTag, State.nextLink, List.find?_isSome, hall]

theorem LinkPort.noticeReady_iff (p : LinkPort) : p.noticeReady = true ↔
    p.state = .up ∧ p.noticeCredit = .held ∧ ∃ st : DataStream, p.noticeSet[st] = true := by
  have hset : p.noticeSet ≠ StreamSet.none ↔ ∃ st : DataStream, p.noticeSet[st] = true := by
    rw [← not_iff_not, not_not, not_exists]
    refine ⟨fun h st => by simp [h, StreamSet.none], fun h => ?_⟩
    refine Vector.ext fun i hi => ?_
    have := h ⟨i, hi⟩
    simpa [StreamSet.none] using this
  simp [LinkPort.noticeReady, hset, and_assoc]

theorem State.linkSending_eq_none_iff (s : State) (l : LinkId) : s.linkSending l = none ↔
    (s.port l).noticeReady = false ∧ ((s.port l).state = .up → (s.port l).outData = [] ∧ (s.port l).outCtl = []) := by
  simp only [State.linkSending]
  split
  · next h => simp [h]
  · next h =>
    split
    · next hu => simp [h, hu]
    · next hu =>
      have hup : (s.port l).state = .up := not_not.1 hu
      cases hd : (s.port l).outData <;> cases hc : (s.port l).outCtl <;> simp [h, hup]

/-- What a link sends next: a NOTICE that is ready, or a handed reply on an UP link. -/
theorem State.linkSending_cases {s : State} {l : LinkId} {c : Instr} (h : s.linkSending l = some c) :
    ((s.port l).noticeReady = true ∧ c = .notice l) ∨
      ((s.port l).state = .up ∧ ∃ r ∈ (s.port l).outData, c = .sendDataReply l r.tag) ∨
      ((s.port l).state = .up ∧ ∃ r ∈ (s.port l).outCtl, c = .sendCtlReply l r.tag) := by
  simp only [State.linkSending] at h
  split at h
  · next hn => exact .inl ⟨hn, (Option.some.inj h).symm⟩
  · split at h
    · cases h
    · next hu =>
      have hup : (s.port l).state = .up := not_not.1 hu
      split at h
      · next r rest hd => exact .inr (.inl ⟨hup, r, by simp [hd], (Option.some.inj h).symm⟩)
      · split at h
        · next r rest hc => exact .inr (.inr ⟨hup, r, by simp [hc], (Option.some.inj h).symm⟩)
        · cases h

/-- A link's due timer: HELLO's in TRAINING, the handshake's in RESETTING. -/
theorem State.linkTimerDue_eq_some_iff (s : State) (l : LinkId) (c : Instr) : s.linkTimerDue l = some c ↔
    (c = .helloTimerExpiry l ∧ (s.port l).state = .training ∧ ∃ t, (s.port l).helloTimer = some t ∧ t ≤ s.now) ∨
      (c = .handshakeTimerExpiry l ∧ (s.port l).state = .resetting ∧
        ∃ t, (s.port l).handshakeTimer = some t ∧ t ≤ s.now) := by
  unfold State.linkTimerDue
  cases hs : (s.port l).state <;> cases hh : (s.port l).helloTimer <;> cases hk : (s.port l).handshakeTimer <;>
    simp [eq_comm (a := c), and_comm]

theorem State.deadlineDue_eq_some_iff (s : State) (le : LinkId × EntryNo) (c : Instr) : s.deadlineDue le = some c ↔
    c = .deadlineExpiry le.1 le.2 ∧ ∃ r g t, s.entry le.1 le.2 = .issued r g t ∧ t ≤ s.now := by
  unfold State.deadlineDue
  cases s.entry le.1 le.2 <;> simp [eq_comm (a := c), and_comm]

theorem mem_allEntries (le : LinkId × EntryNo) : le ∈ allEntries := by
  simp [allEntries]

/-- The part has no own event exactly when every search of it finds nothing. -/
theorem State.ownEvent_eq_none_iff (s : State) : s.ownEvent = none ↔
    s.engine.work = none ∧ (∀ l, s.canExamine l = false) ∧ s.canGrant = false ∧ (∀ l, s.linkSending l = none) ∧
      (∀ l, s.linkTimerDue l = none) ∧ ∀ le, s.deadlineDue le = none := by
  unfold State.ownEvent
  cases hw : s.engine.work with
  | some c => simp
  | none =>
    cases he : (List.finRange 4).find? s.canExamine with
    | some l =>
      have := List.find?_some he
      simp only [reduceCtorEq, false_iff, true_and, not_and]
      intro h
      simp [h l] at this
    | none =>
      have he' : ∀ l, s.canExamine l = false := by simpa [List.find?_eq_none] using he
      cases hg : s.canGrant with
      | true => simp
      | false =>
        cases hl : (List.finRange 4).findSome? s.linkSending with
        | some c =>
          obtain ⟨l, _, hc⟩ := List.exists_of_findSome?_eq_some hl
          simp only [Bool.false_eq_true, if_false, reduceCtorEq, false_iff, true_and, not_and]
          intro _ h
          simp [h l] at hc
        | none =>
          have hl' : ∀ l, s.linkSending l = none := by simpa [List.findSome?_eq_none_iff] using hl
          cases ht : (List.finRange 4).findSome? s.linkTimerDue with
          | some c =>
            obtain ⟨l, _, hc⟩ := List.exists_of_findSome?_eq_some ht
            simp only [Bool.false_eq_true, if_false, reduceCtorEq, false_iff, true_and, not_and]
            intro _ _ h
            simp [h l] at hc
          | none =>
            have ht' : ∀ l, s.linkTimerDue l = none := by simpa [List.findSome?_eq_none_iff] using ht
            simp [he', hl', ht', List.findSome?_eq_none_iff, mem_allEntries]

/-- An own event was found by one of the searches. -/
theorem State.ownEvent_cases {s : State} {c : Instr} (h : s.ownEvent = some c) :
    s.engine.work = some c ∨ (∃ l, c = .examination l ∧ s.canExamine l = true) ∨ (c = .grant ∧ s.canGrant = true) ∨
      (∃ l, s.linkSending l = some c) ∨ (∃ l, s.linkTimerDue l = some c) ∨ ∃ le, s.deadlineDue le = some c := by
  unfold State.ownEvent at h
  split at h
  · next hw => exact .inl (by rw [hw, h])
  · split at h
    · next l he => exact .inr (.inl ⟨l, (Option.some.inj h).symm, List.find?_some he⟩)
    · split at h
      · next hg => exact .inr (.inr (.inl ⟨(Option.some.inj h).symm, hg⟩))
      · split at h
        · next hl =>
          obtain ⟨l, _, hc⟩ := List.exists_of_findSome?_eq_some hl
          exact .inr (.inr (.inr (.inl ⟨l, by rw [hc, h]⟩)))
        · split at h
          · next ht =>
            obtain ⟨l, _, hc⟩ := List.exists_of_findSome?_eq_some ht
            exact .inr (.inr (.inr (.inr (.inl ⟨l, by rw [hc, h]⟩))))
          · obtain ⟨le, _, hc⟩ := List.exists_of_findSome?_eq_some h
            exact .inr (.inr (.inr (.inr (.inr ⟨le, hc⟩))))

end Sys2Proof.Machine
end

