-- ==== Sys2Proof/WellFormed.lean ====
section
/-! DEFINITION. Which terms of `Instr` the outside world can send. Operands that the type already bounds need no
check; `exec` is total and does not rest on these checks. -/

namespace Sys2Proof

/-- A WR's length field is 16 bits and equals its number of data bytes (R188, R189); a completion carries 0 to 512
bytes (R113); a bus write is REGISTER_WRITE only where no other row takes it (R176). -/
def Instr.wellFormed : Instr → Bool
  | .wr _ _ _ _ data => decide (data.length < 2 ^ 16)
  | .completion _ _ data => decide (data.length ≤ Config.maxLength)
  | .registerWrite off width value => decide (busWrite off width value = .registerWrite off width value)
  | .install | .replace | .retire | .suspend | .resume | .setBudget | .readWindow => true
  | .domainOpen | .domainSet | .setFence | .freeze | .thaw | .halt | .release | .purge | .readDomain | .readChain => true
  | .bind | .unbind | .streamSet | .targetSet | .setTimeout | .linkSet | .probe | .badCommand => true
  | .cmdIssue _ | .openWindow | .closeWindow | .narrow | .status => true
  | .ctl _ _ _ _ _ | .rd _ _ _ _ _ | .rds _ _ _ _ _ => true
  | .noticeAck _ | .hello _ | .linkReset _ | .unknownKind _ => true
  | .signalDetection _ | .signalLoss _ | .helloTimerExpiry _ | .handshakeTimerExpiry _ => true
  | .examination _ | .grant | .deadlineExpiry _ _ => true
  | .notice _ | .sendDataReply _ _ | .sendCtlReply _ _ => true
  | .powerOnReset | .deviceReset | .unboundSetRemove _ _ => true
  | .eventClear _ _ | .eventEnableWrite _ _ | .summaryEnableWrite _ => true

end Sys2Proof
end

