-- ==== Sys2Proof/Tests/Slice0.lean ====
section
/-! SUPPORT. The model's own tests, each about one step or one function on a small state: what WellFormed refuses, the two
decoders, steps of the worked sequences (12_worked_sequences.md), and for each statement with hypotheses a state and
operands that meet them (`witness_...`), clause by clause at the boundaries. -/

set_option Elab.async false

open Sys2Proof Sys2Proof.Machine Sys2Proof.Spec

namespace Sys2Proof.Tests

/-! ## Builders -/

def rw : Perms := ⟨true, true, false⟩

/-- A LIVE window of generation 1. -/
def aWindow (d : DomId) (owner : Owner) (rank n base : Nat) (t : TargetId) (targetBase refs : Nat) : Window where
  state := .live
  generation := 1
  domain := d
  owner := owner
  rank := rank
  base := BitVec.ofNat 48 base
  sizeExp := n
  target := t
  targetBase := BitVec.ofNat 64 targetBase
  perms := rw
  budget := none
  alert := false
  refs := refs

/-- The request of an entry that holds window `(i, 1)`. -/
def aRequest (tag : PeerTag) (i : SlotId) (t : TargetId) : EntryReq :=
  ⟨tag, .rd, 0, 64, ⟨i, 1⟩, t, 0x80000100, none⟩

/-- D0 in service: limit 2 with one fault counted, a 16 MiB fence, one self window of two allowed. -/
def d0 : Domain :=
  { Domain.unused with
    state := .active
    faultLimit := 2
    faultCount := 1
    chain := [0, 1, 2]
    selfAllowance := 2
    selfCount := 1
    selfCeiling := rw
    fence := some ⟨0x10000000, 24, 1, 0x90000000⟩ }

/-- LP0 as it stands UP with two requests in the tracker. -/
def lp0 : LinkPort :=
  { LinkPort.initial true with
    state := .up
    dataCredits := 10
    unrepliedTags := ((Vector.replicate 16 false).set 3 true).set 4 true
    ctlCredits := 2
    noticeCredit := .held }

/-- A part at work: D0 ACTIVE with windows 0 and 1 of management and 2 of a peer, D1 PURGING with window 3 DRAINING, D2
HALTED, D3 FROZEN; LP0 UP, LP1 DOWN, LP2 TRAINING, LP3 RESETTING; entry 0 of LP0 ISSUED under tag 5, entry 1 waiting. -/
def busy : State :=
  { State.reset with
    windows := ((((State.reset.windows.set 0 (aWindow 0 .management 10 16 0x400000 0 0x80000000 1)).set 1
      (aWindow 0 .management 20 12 0x500000 2 0x20000000 0)).set 2
      (aWindow 0 .self 128 16 0x10000000 1 0x90000000 0)).set 3
      { aWindow 1 .management 0 12 0 0 0 1 with state := .draining })
    domains := (((State.reset.domains.set 0 d0).set 1 { Domain.unused with state := .purging, drainingCount := 1 }).set 2
      { Domain.unused with state := .halted, haltCause := some ⟨.access, 0, 1, 0x500⟩ }).set 3
      { Domain.unused with state := .frozen }
    bindings := State.reset.bindings.set 0 ((((Vector.replicate 15 StreamEntry.initial).set 0 ⟨true, .refuse, some 0⟩).set 1
      ⟨true, .refuse, some 2⟩).set 2 ⟨true, .absorb, none⟩)
    ports := ((State.reset.ports.set 0 lp0).set 2
      { LinkPort.initial true with state := .training, helloTimer := some 1000 }).set 3
      { LinkPort.initial true with state := .resetting, handshakeTimer := some 10000 }
    entries := State.reset.entries.set 0
      (((Vector.replicate 8 Entry.free).set 0 (.issued (aRequest 3 3 0) 5 900)).set 1 (.waitTag (aRequest 4 0 0)))
    waiting := State.reset.waiting.set 0 [1]
    fabric :=
      { Fabric.initial with
        tags := (Fabric.initial.tags.set 5 (.held 0 0)).set 7 (.quarantined 2)
        targets := (Fabric.initial.targets.set 0 .online).set 1 .online } }

/-- The command of code `k` with the argument words `a`, sequence number 9. -/
def cmd (k : Nat) (a : List Nat) : Command :=
  ⟨BitVec.ofNat 8 k, 9, Vector.ofFn fun i => BitVec.ofNat 32 (a.getD i.val 0)⟩

/-- `s` with a command in the management slot and the in-band queue empty. -/
def withCmd (c : Command) (s : State) : State := s.setEngine ⟨some c, [], .inband⟩

/-- `s` with one control request at the head of the in-band queue. -/
def withCtl (q : CtlRequest) (s : State) : State := s.setEngine ⟨none, [q], .inband⟩

/-- The result code of a command the engine takes: the low byte of CMD_RESULT0. -/
def code (row : Instr) (c : Command) (s : State) : Option Nat :=
  match exec row (withCmd c s) with
  | .next t => some (t.mgmt.results[(0 : Fin 12)]).toNat
  | .fault _ => none
  | .refused _ => none

/-- The result code of the control reply handed to LP0. -/
def ctlCode (row : Instr) (q : CtlRequest) (s : State) : Option Nat :=
  match exec row (withCtl q s) with
  | .next t => (t.ports[(0 : Fin 4)]).outCtl.getLast?.map fun r => r.code.num
  | .fault _ => none
  | .refused _ => none

/-- The state a row leads to. -/
def after (row : Instr) (s : State) : State :=
  match exec row s with
  | .next t => t
  | .fault _ => s
  | .refused _ => s


/-- Result word `k` of a command the engine takes. -/
def word (k : Fin 12) (row : Instr) (c : Command) (s : State) : Nat :=
  ((after row (withCmd c s)).mgmt.results[k]).toNat

/-- A request on LP0 with peer tag 9. -/
def aReq (kind : ReqKind) (stream : DataStream) (addr len : Nat) : Request :=
  ⟨0, 9, kind, stream, BitVec.ofNat 48 addr, len, if kind = .wr then some [] else none⟩

/-- `s` with one request in the ingress queue of LP0. -/
def withReq (q : Request) (s : State) : State := s.modPort 0 fun p => { p with ingress := [q] }

/-- A control request of LP0 with control tag 1. -/
def aCtl (op : CtlOp) (byte2 : Byte) (body : List Byte) : CtlRequest := ⟨0, 1, byte2, op, body⟩

def openBody (base : Nat) (n perms : Byte) : List Byte := leBytes 8 base ++ [n, perms, 0, 0]
def handleBody (slot : Nat) (g : Byte) : List Byte := leBytes 2 slot ++ [g, 0]

/-- `busy` with every window slot in use. -/
def full : State := { busy with windows := busy.windows.map fun w => { w with state := .live } }

/-! ## Well-formedness, and the two decoders -/

theorem test_wellFormed_refuses_long_write :
    (Instr.wr 0 0 1 0 (List.replicate 65536 0)).wellFormed = false := by
  simp only [Instr.wellFormed, List.length_replicate]
  decide

theorem test_wellFormed_refuses_long_completion :
    (Instr.completion 0 .ok (List.replicate 513 0)).wellFormed = false := by
  simp only [Instr.wellFormed, List.length_replicate]
  decide

theorem test_wellFormed_refuses_write_with_its_own_row :
    (Instr.registerWrite 0x010 .word 0).wellFormed = false := by decide

theorem test_wellFormed_accepts_staging_write : (Instr.registerWrite 0x040 .word 5).wellFormed = true := by decide

/-- A WR of two bytes, an RD, a CTL, a HELLO and a LINK_RESET as R188 lays them out. -/
theorem test_arrival_reads_messages :
    arrival 1 [0x01, 3, 2, 0, 0x00, 0x01, 0x40, 0, 0, 0, 2, 0, 0xAA, 0xBB] = .wr 1 3 2 0x400100 [0xAA, 0xBB] ∧
    arrival 0 [0x02, 15, 1, 0, 0, 0, 0, 0, 0, 0x80, 0, 2] = .rd 0 15 1 0x800000000000 512 ∧
    arrival 2 [0x04, 1, 0x31, 3, 5, 0, 1, 0, 2, 0, 0, 0] = .ctl 2 1 0x31 3 [5, 0, 1, 0, 2, 0, 0, 0] ∧
    arrival 0 [0x06, 0, 0, 0, 1, 0, 0, 0] = .hello 0 ∧ arrival 3 [0x07, 0, 0, 0] = .linkReset 3 := by decide +kernel

/-- A wrong byte count, an unknown kind and a message shorter than a header (R189). -/
theorem test_arrival_refuses_malformed :
    arrival 0 [0x01, 3, 2, 0, 0, 0, 0, 0, 0, 0, 2, 0, 0xAA] = .unknownKind 0 ∧
    arrival 0 [0x02, 0, 1, 0] = .unknownKind 0 ∧ arrival 0 [0x08, 0, 0, 0] = .unknownKind 0 ∧
    arrival 0 [0x07, 0, 0] = .unknownKind 0 := by decide +kernel

theorem test_busWrite_finds_rows :
    busWrite 0x010 .word 5 = .cmdIssue 5 ∧ busWrite 0x004 .word 1 = .deviceReset ∧
    busWrite 0x004 .word 2 = .registerWrite 0x004 .word 2 ∧ busWrite 0x14C .word 6 = .unboundSetRemove 3 6 ∧
    busWrite 0x27C .word 1 = .eventClear (.domain 15) 1 ∧ busWrite 0x204 .word 1 = .eventEnableWrite .device 1 ∧
    busWrite 0x2C4 .word 7 = .summaryEnableWrite 7 ∧ busWrite 0x2C4 .half 7 = .registerWrite 0x2C4 .half 7 := by
  decide +kernel

theorem test_no_word_spells_a_command : decodeTableWord 32 0 = none ∧ State.reset.withFetchWord 32 0 = State.reset := by
  decide +kernel

/-! ## The queue, resets, the port -/

theorem witness_StepRunsFrontCommand : { busy with pending := [.grant, .hello 0] }.pending = .grant :: [.hello 0] := rfl

theorem witness_EmptyQueueStepsOwnWork :
    busy.pending = [] ∧ busy.ownEvent = some .grant ∧ State.reset.pending = [] ∧ State.reset.ownEvent = none := by
  decide +kernel


/-- Each kind of own event from a state in which it alone is enabled or comes first (log 3), with the timers and the
deadline due at their moment and not one microsecond before. -/
theorem test_own_events :
    (withCmd (cmd 0x19 []) busy).ownEvent = some .badCommand ∧
    (withCtl (aCtl .status 1 []) busy).ownEvent = some .status ∧
    (withReq (aReq .rd 0 0x400000 8) busy).ownEvent = some (.examination 0) ∧
    ((after .grant busy).pendNotice 0 none).ownEvent = some (.notice 0) ∧
    (after (.deadlineExpiry 0 0) (after .grant busy)).ownEvent = some (.sendDataReply 0 3) ∧
    (after (.ctl 0 1 1 5 []) (after .grant busy)).ownEvent = some (.sendCtlReply 0 1) ∧
    (((after .grant busy).setNow 899).ownEvent = none ∧
      ((after .grant busy).setNow 900).ownEvent = some (.deadlineExpiry 0 0)) ∧
    ((after (.completion 5 .ok []) (after .grant busy)).setPort 0 (LinkPort.initial false)).ownEvent = none ∧
    ((after .grant busy).setNow 1000).ownEvent = some (.helloTimerExpiry 2) ∧
    (((after (.hello 2) (after .grant busy)).setNow 10000).ownEvent = some (.handshakeTimerExpiry 3)) := by
  decide +kernel

/-- The entries of `busy`: one ISSUED, one waiting, the others FREE. -/
theorem busy_entries (l : LinkId) (e : EntryNo) :
    busy.entry l e = .free ∨ (l = 0 ∧ e = 0 ∧ busy.entry l e = .issued (aRequest 3 3 0) 5 900) ∨
      (l = 0 ∧ e = 1 ∧ busy.entry l e = .waitTag (aRequest 4 0 0)) := by
  revert l e
  decide +kernel

theorem witness_tagsHeldByIssued : tagsHeldByIssued busy := by
  have held : ∀ (t : TagNo) (l : LinkId) (e : EntryNo), busy.tag t = .held l e → t = 5 ∧ l = 0 ∧ e = 0 := by
    intro t l e h
    have all : ∀ t : TagNo, busy.tag t = .free ∨ busy.tag t = .quarantined 2 ∨ (t = 5 ∧ busy.tag t = .held 0 0) := by
      decide +kernel
    rcases all t with h1 | h1 | ⟨h1, h2⟩
    · rw [h1] at h
      cases h
    · rw [h1] at h
      cases h
    · rw [h2] at h
      cases h
      exact ⟨h1, rfl, rfl⟩
  refine ⟨fun t l e h => ?_, fun t l e r dl h => ?_⟩
  · obtain ⟨rfl, rfl, rfl⟩ := held t l e h
    exact ⟨aRequest 3 3 0, 900, by decide +kernel⟩
  · rcases busy_entries l e with h1 | ⟨rfl, rfl, h1⟩ | ⟨rfl, rfl, h1⟩
    · rw [h1] at h
      cases h
    · rw [h1] at h
      cases h
      decide +kernel
    · rw [h1] at h
      cases h

/-- The clauses of DeviceResetKeepsGenerationsAndQuarantine meet a free, a quarantined and a held tag, and what the reset
leaves of them. -/
theorem test_device_reset_tags :
    (after .deviceReset busy).fabric.tags[(0 : Fin 24)] = .free ∧
    (after .deviceReset busy).fabric.tags[(7 : Fin 24)] = .quarantined 2 ∧
    (after .deviceReset busy).fabric.tags[(5 : Fin 24)] = .quarantined 0 ∧
    ((after .deviceReset busy).windows[(3 : Fin 128)]).generation = 1 := by decide +kernel

/-- 12.1: power-on reset with the signal present on LP0 trains LP0 at once. -/
theorem test_power_on_reset_trains :
    (((after .powerOnReset busy).ports[(0 : Fin 4)]).state = .training) ∧
    ((after .powerOnReset busy).ports[(1 : Fin 4)]).state = .down ∧
    (after .powerOnReset busy).sent.head? = some (0, [6, 0, 0, 0, 12, 2, 0, 0]) := by decide +kernel

theorem witness_CmdIssueFillsSlotOrOverruns :
    busy.engine.slot = none ∧ (withCmd (cmd 1 []) busy).engine.slot ≠ none := by decide +kernel

/-- The first and the last offset of each clause of RegisterWriteActsByGroup. -/
theorem witness_RegisterWriteActsByGroup :
    (0x041 : BitVec 12).toNat % 4 ≠ 0 ∧
    (0x040 : BitVec 12).toNat = 0x040 + 4 * (0 : Fin 12).val ∧ (0x06C : BitVec 12).toNat = 0x040 + 4 * (11 : Fin 12).val ∧
    (0x140 : BitVec 12).toNat = 0x140 + 4 * (0 : Fin 4).val ∧ (0x14C : BitVec 12).toNat = 0x140 + 4 * (3 : Fin 4).val ∧
    (0x210 : BitVec 12).toNat = 0x210 + 4 * (0 : Fin 4).val ∧ (0x21C : BitVec 12).toNat = 0x210 + 4 * (3 : Fin 4).val ∧
    (0x220 : BitVec 12).toNat = 0x220 + 4 * (0 : Fin 4).val ∧ (0x22C : BitVec 12).toNat = 0x220 + 4 * (3 : Fin 4).val ∧
    (0x240 : BitVec 12).toNat = 0x240 + 4 * (0 : Fin 16).val ∧ (0x27C : BitVec 12).toNat = 0x240 + 4 * (15 : Fin 16).val ∧
    (0x280 : BitVec 12).toNat = 0x280 + 4 * (0 : Fin 16).val ∧ (0x2BC : BitVec 12).toNat = 0x280 + 4 * (15 : Fin 16).val ∧
    (0x2C4 : BitVec 12).toNat = 0x2C4 := by decide +kernel

/-- Writes at the edges of the ignored ranges change nothing, and a staging write beside them does. -/
theorem test_ignored_writes :
    ([0x000, 0x008, 0x00C, 0x014, 0x03C, 0x070, 0x13C, 0x150, 0x1FC, 0x208, 0x20C, 0x230, 0x23C, 0x2C0, 0x2C8, 0xFFC].all
      fun off => decide (after (.registerWrite off .word 0xFFFFFFFF) busy = busy)) = true ∧
    (after (.registerWrite 0x06C .word 5) busy).mgmt.staging[(11 : Fin 12)] = 5 := by decide +kernel

theorem test_register_reads :
    busy.busRead 0x100 .word = 0x620AB ∧ busy.busRead 0x110 .word = 0x13 ∧ busy.busRead 0x114 .word = 0x400 ∧
    busy.busRead 0x120 .word = 0x10116 ∧ busy.busRead 0x000 .word = 0x15D32416 ∧ busy.busRead 0x101 .word = 0 := by
  decide +kernel

/-- An unaligned offset, and the first and last word of each unassigned range, which read 0. -/
theorem witness_RegisterReadsShowState :
    (0xFFF : BitVec 12).toNat % 4 ≠ 0 ∧
    ([0x008, 0x00C, 0x018, 0x03C, 0x070, 0x07C, 0x0B0, 0x0FC, 0x118, 0x11C, 0x124, 0x13C, 0x150, 0x1FC, 0x208, 0x20C, 0x230,
      0x23C, 0x2C8, 0xFFC].all fun off => decide (registerAt off = .unassigned ∧ busy.busRead off .word = 0)) = true := by
  decide +kernel

/-- The ranges of RegisterReadsShowState are exactly the unassigned words. -/
theorem test_unassigned_ranges (off : BitVec 12) (h : off.toNat % 4 = 0) :
    registerAt off = .unassigned ↔
      (0x008 ≤ off.toNat ∧ off.toNat < 0x010) ∨ (0x018 ≤ off.toNat ∧ off.toNat < 0x040) ∨
        (0x070 ≤ off.toNat ∧ off.toNat < 0x080) ∨ (0x0B0 ≤ off.toNat ∧ off.toNat < 0x100) ∨
        (0x118 ≤ off.toNat ∧ off.toNat < 0x120) ∨ (0x124 ≤ off.toNat ∧ off.toNat < 0x140) ∨
        (0x150 ≤ off.toNat ∧ off.toNat < 0x200) ∨ (0x208 ≤ off.toNat ∧ off.toNat < 0x210) ∨
        (0x230 ≤ off.toNat ∧ off.toNat < 0x240) ∨ 0x2C8 ≤ off.toNat := by
  revert off
  decide +kernel

theorem test_enabled_event_asserts_interrupt :
    (after (.eventEnableWrite (.domain 2) 4) (busy.raiseDom 2 .domainHalted)).events.interrupt = false ∧
    (after (.summaryEnableWrite 0x40)
      (after (.eventEnableWrite (.domain 2) 4) (busy.raiseDom 2 .domainHalted))).events.interrupt = true ∧
    (after (.eventClear (.domain 2) 4) (busy.raiseDom 2 .domainHalted)).events.dom 2 .domainHalted = false := by
  decide +kernel

theorem witness_LatchesStaySetUntilCleared :
    exec (.hello 2) (busy.raiseDev .quarantine) = .next (after (.hello 2) (busy.raiseDev .quarantine)) ∧
    (busy.raiseDev .quarantine).events.dev .quarantine = true ∧
    (busy.raiseLink 3 .unbound).events.link 3 .unbound = true ∧
    (busy.raiseDom 15 .selfChanged).events.dom 15 .selfChanged = true := ⟨rfl, by decide +kernel⟩

/-! ## The engine -/

theorem witness_EngineServesTheOtherSource :
    (∀ k ∈ [0x00, 0x19, 0xFF], takes k (cmd k []) (withCmd (cmd k []) busy)) ∧ busy.engine.servesInband = false ∧
    (withCtl (aCtl .status 1 []) busy).engine.servesInband = true := by decide +kernel

theorem test_unknown_code_is_refused : ([0x00, 0x19, 0xFF].map fun k => code .badCommand (cmd k []) busy) =
    [some 2, some 2, some 2] := by decide +kernel

/-! ## Windows -/

def installCmd (arg0 arg1 base : Nat) : Command := cmd 0x01 [arg0, arg1, base, 0, 0x30000, 0, 5, 0x80000000]

theorem witness_InstallFillsLowestFreeSlot :
    takes 0x01 (installCmd 0x1E00 0x3000010 0x600000) (withCmd (installCmd 0x1E00 0x3000010 0x600000) busy) ∧
    argField (installCmd 0x1E00 0x3000010 0x600000).args 0 0 8 = (0 : DomId).val ∧
    argField (installCmd 0x1E00 0x3000010 0x600000).args 0 8 8 = 30 ∧
    argField (installCmd 0x1E00 0x3000010 0x600000).args 1 16 8 = (0 : TargetId).val ∧
    argField (installCmd 0x1E00 0x3000010 0x600000).args 0 16 2 ≤ 1 ∧
    permsFit (argPerms (installCmd 0x1E00 0x3000010 0x600000).args) ∧
    budgetFits (argBudget (installCmd 0x1E00 0x3000010 0x600000).args 6 7) ∧ inService d0.state ∧
    geometryFits 16 0x600000 0x30000 ∧ d0.chain = [0, 1] ++ [2] ∧
    (∀ j ∈ ([0, 1] : List SlotId), (busy.windows[j]).rank < 30) ∧ (∀ j ∈ ([2] : List SlotId), 30 < (busy.windows[j]).rank) ∧
    (4 : SlotId) ∉ ([0, 1] ++ [2] : List SlotId) ∧ lowestFree busy 4 := by decide +kernel

/-- Accepted at the greatest rank and size; then each check of R14 at its bound, in order. -/
theorem witness_InstallRefusedByFirstFailingCheck :
    ([installCmd 0x7F00 0x3000010 0x600000, installCmd 0x10 0x3000010 0x600000, installCmd 0x8000 0x3000010 0x600000,
      installCmd 0x1E00 0x3040010 0x600000, installCmd 0x1E00 0x4000010 0x600000, installCmd 0x21E00 0x3000010 0x600000].map
        (code .install · busy)) = [some 0, some 3, some 3, some 3, some 3, some 3] ∧
    ([installCmd 0x1E01 0x3000010 0x600000, installCmd 0x1E0F 0x3000010 0x600000, installCmd 0x1E00 0x300000B 0x600000,
      installCmd 0x1E00 0x3000029 0, installCmd 0x1E00 0x3000010 0x608000, installCmd 0x0A00 0x3000010 0x600000].map
        (code .install · busy)) = [some 8, some 8, some 9, some 9, some 9, some 10] ∧
    code .install (installCmd 0x1E00 0x3000010 0x600000) full = some 11 := by decide +kernel

/-- A budget of 0 and of one more than 2^40 is refused, and 2^40 is taken (R14). -/
theorem test_budget_bounds :
    ([[0, 0x80000000], [1, 0x80000100], [0, 0x80000100], [0, 0]].map fun b =>
      code .install (cmd 0x01 ([0x1E00, 0x3000010, 0x600000, 0, 0x30000, 0] ++ b)) busy) =
    [some 3, some 3, some 0, some 0] := by decide +kernel

def replaceCmd (handle arg1 : Nat) : Command := cmd 0x02 [handle, arg1, 0x400000, 0, 0x40000, 0, 0, 0]

theorem witness_ReplaceSwapsWindowAtItsRank :
    takes 0x02 (replaceCmd 0x10000 0x3010010) (withCmd (replaceCmd 0x10000 0x3010010) busy) ∧
    argField (replaceCmd 0x10000 0x3010010).args 0 0 16 = (0 : SlotId).val ∧
    ((replaceCmd 0x10000 0x3010010).args[(0 : Fin 12)]).extractLsb' 16 8 = (busy.windows[(0 : SlotId)]).generation ∧
    argField (replaceCmd 0x10000 0x3010010).args 1 16 8 = (1 : TargetId).val ∧
    permsFit (argPerms (replaceCmd 0x10000 0x3010010).args) ∧
    budgetFits (argBudget (replaceCmd 0x10000 0x3010010).args 6 7) ∧ (busy.windows[(0 : SlotId)]).state = .live ∧
    (busy.windows[(0 : SlotId)]).owner = .management ∧ geometryFits 16 0x400000 0x40000 ∧ lowestFree busy 4 ∧
    d0.chain = [] ++ 0 :: [1, 2] ∧ (0 : SlotId) ∉ ([] ++ [1, 2] : List SlotId) ∧ (4 : SlotId) ∉ ([] ++ [1, 2] : List SlotId) := by
  decide +kernel

/-- 12.2: a REPLACE of a window with references is PENDING, and the new handle is (4, 1) at the old place. -/
theorem test_replace_under_load :
    code .replace (replaceCmd 0x10000 0x3010010) busy = some 1 ∧
    word 1 .replace (replaceCmd 0x10000 0x3010010) busy = 0x10004 ∧
    ((after .replace (withCmd (replaceCmd 0x10000 0x3010010) busy)).domains[(0 : Fin 16)]).chain = [4, 1, 2] ∧
    ((after .replace (withCmd (replaceCmd 0x10000 0x3010010) busy)).windows[(0 : Fin 128)]).state = .draining := by
  decide +kernel

/-- Each check of REPLACE at its bound, in order. -/
theorem witness_replace_refused_in_order :
    ([(0x10000, 0x3040010), (0x10000, 0x4010010), (0x10080, 0x3010010), (0x00000, 0x3010010), (0x10003, 0x3010010),
      (0x10002, 0x3010010), (0x10000, 0x3010029)].map fun a => code .replace (replaceCmd a.1 a.2) busy) =
    [some 3, some 3, some 5, some 6, some 7, some 12, some 9] ∧
    code .replace (replaceCmd 0x10000 0x3010010) full = some 11 := by decide +kernel

/-- RETIRE, SUSPEND, RESUME and SET_BUDGET: no slot, a stale handle, a DRAINING window, and the wrong state. -/
theorem witness_window_commands_refused_in_order :
    ([0x10080, 0x00000, 0x00004, 0x10003].map fun h => code .retire (cmd 0x03 [h]) busy) =
      [some 5, some 6, some 6, some 7] ∧
    ([0x10080, 0x00000, 0x10003].map fun h => code .suspend (cmd 0x04 [h]) busy) = [some 5, some 6, some 7] ∧
    ([0x10080, 0x00000, 0x10000].map fun h => code .resume (cmd 0x05 [h]) busy) = [some 5, some 6, some 7] ∧
    ([[0x10000, 0, 0x80000000], [0x10080, 1, 0], [0x00000, 1, 0], [0x10003, 1, 0]].map fun a =>
      code .setBudget (cmd 0x06 a) busy) = [some 3, some 5, some 6, some 7] := by decide +kernel

theorem witness_RetireRemovesWindowFromChain :
    takes 0x03 (cmd 0x03 [0x10002]) (withCmd (cmd 0x03 [0x10002]) busy) ∧
    argField (cmd 0x03 [0x10002]).args 0 0 16 = (2 : SlotId).val ∧
    ((cmd 0x03 [0x10002]).args[(0 : Fin 12)]).extractLsb' 16 8 = (busy.windows[(2 : SlotId)]).generation ∧
    (busy.windows[(2 : SlotId)]).state = .live ∧ (busy.windows[(2 : SlotId)]).owner = .self ∧ d0.chain = [0, 1] ++ 2 :: [] ∧
    (2 : SlotId) ∉ ([0, 1] ++ [] : List SlotId) := by decide +kernel

theorem test_retire :
    code .retire (cmd 0x03 [0x10002]) busy = some 0 ∧ code .retire (cmd 0x03 [0x10000]) busy = some 1 ∧
    ((after .retire (withCmd (cmd 0x03 [0x10002]) busy)).domains[(0 : Fin 16)]).selfCount = 0 ∧
    (((after .retire (withCmd (cmd 0x03 [0x10002]) busy)).ports[(0 : Fin 4)]).noticeSet[(0 : Fin 15)]) = true := by
  decide +kernel

theorem witness_WindowChangedInPlace :
    takes 0x04 (cmd 0x04 [0x10000]) (withCmd (cmd 0x04 [0x10000]) busy) ∧ (busy.windows[(0 : SlotId)]).state = .live ∧
    takes 0x05 (cmd 0x05 [0x10000]) (withCmd (cmd 0x05 [0x10000]) busy) ∧
    ((after .suspend (withCmd (cmd 0x04 [0x10000]) busy)).windows[(0 : SlotId)]).state = .suspended ∧
    takes 0x06 (cmd 0x06 [0x10000, 0, 0x80000100]) (withCmd (cmd 0x06 [0x10000, 0, 0x80000100]) busy) ∧
    budgetFits (argBudget (cmd 0x06 [0x10000, 0, 0x80000100]).args 1 2) ∧
    ((cmd 0x06 [0x10000, 0, 0x80000100]).args[(0 : Fin 12)]).extractLsb' 16 8 = (busy.windows[(0 : SlotId)]).generation := by
  decide +kernel

theorem test_suspend_resume_setBudget :
    code .suspend (cmd 0x04 [0x10000]) busy = some 0 ∧
    code .resume (cmd 0x05 [0x10000]) (after .suspend (withCmd (cmd 0x04 [0x10000]) busy)) = some 0 ∧
    ((after .setBudget (withCmd (cmd 0x06 [0x10000, 0, 0x80000100]) busy)).windows[(0 : SlotId)]).budget =
      some ⟨2 ^ 40, 2 ^ 40⟩ := by decide +kernel

theorem witness_ReadWindowReturnsRecord :
    takes 0x07 (cmd 0x07 [127]) (withCmd (cmd 0x07 [127]) busy) ∧ argField (cmd 0x07 [127]).args 0 0 16 = (127 : SlotId).val ∧
    127 < argField (cmd 0x07 [128]).args 0 0 16 := by decide +kernel

theorem test_readWindow :
    word 1 .readWindow (cmd 0x07 [3]) busy = 0x01010303 ∧ word 2 .readWindow (cmd 0x07 [3]) busy = 0x01000C00 ∧
    word 3 .readWindow (cmd 0x07 [0]) busy = 0x400000 ∧ word 5 .readWindow (cmd 0x07 [0]) busy = 0x80000000 ∧
    code .readWindow (cmd 0x07 [128]) busy = some 3 := by decide +kernel

/-- A LIVE window, a DRAINING window with another reference, the last reference in a domain that is not PURGING or has
another window draining, and the last reference of a purge. -/
theorem witness_ReferenceDropMayFreeWindowAndEndPurge :
    (busy.windows[(0 : SlotId)]).generation = 1 ∧ (busy.windows[(0 : SlotId)]).state ≠ .draining ∧
    1 < ((busy.setWindow 3 { busy.window 3 with refs := 2 }).windows[(3 : SlotId)]).refs ∧
    (busy.windows[(3 : SlotId)]).state = .draining ∧ (busy.windows[(3 : SlotId)]).refs = 1 ∧
    (busy.domains[(1 : DomId)]).state = .purging ∧ (busy.domains[(1 : DomId)]).drainingCount = 1 ∧
    ((busy.setDomain 1 { busy.domain 1 with state := .active }).domains[(1 : DomId)]).state ≠ .purging ∧
    1 < ((busy.setDomain 1 { busy.domain 1 with drainingCount := 2 }).domains[(1 : DomId)]).drainingCount := by
  decide +kernel

/-! ## Domains -/

theorem witness_DomainPoliciesAndFenceWritten :
    takes 0x08 (cmd 0x08 [0xFF10710F]) (withCmd (cmd 0x08 [0xFF10710F]) busy) ∧
    argField (cmd 0x08 [0xFF10710F]).args 0 0 8 = (15 : DomId).val ∧
    argField (cmd 0x08 [0xFF10710F]).args 0 8 2 = MissPolicy.refuseQuiet.num ∧
    argField (cmd 0x08 [0xFF10710F]).args 0 16 5 ≤ 16 ∧ permsFit (Perms.ofNat (argField (cmd 0x08 [0xFF10710F]).args 0 12 3)) ∧
    (busy.domains[(15 : DomId)]).state = .unused ∧
    takes 0x09 (cmd 0x09 [0x01200]) (withCmd (cmd 0x09 [0x01200]) busy) ∧ inService d0.state ∧
    d0.selfCount ≤ argField (cmd 0x09 [0x11200]).args 0 16 5 ∧
    takes 0x0A (cmd 0x0A [0x100, 0x3001C, 0, 0, 0, 0]) (withCmd (cmd 0x0A [0x100, 0x3001C, 0, 0, 0, 0]) busy) ∧
    ((cmd 0x0A [0x100, 0x3001D]).args[(0 : Fin 12)]).getLsbD 8 = true ∧
    argField (cmd 0x0A [0x100, 0x3001D]).args 1 16 8 = (3 : TargetId).val ∧ geometryFits 29 0 0 ∧
    (∀ j ∈ d0.chain, (busy.windows[j]).owner = .self →
      insideFence ⟨0, 29, 3, 0⟩ (busy.windows[j]).base.toNat (busy.windows[j]).sizeExp) ∧
    ((cmd 0x0A [3]).args[(0 : Fin 12)]).getLsbD 8 = false ∧ inService (busy.domains[(3 : DomId)]).state ∧
    (busy.domains[(3 : DomId)]).selfCount = 0 := by decide +kernel

theorem test_domain_writes :
    code .domainOpen (cmd 0x08 [0xFF10710F]) busy = some 0 ∧ code .domainSet (cmd 0x09 [0x11200]) busy = some 0 ∧
    code .setFence (cmd 0x0A [0x100, 0x3001D, 0, 0, 0, 0]) busy = some 0 ∧ code .setFence (cmd 0x0A [3]) busy = some 0 ∧
    ((after .setFence (withCmd (cmd 0x0A [0x100, 0x3001D, 0, 0, 0, 0]) busy)).domains[(0 : DomId)]).fence =
      some ⟨0, 29, 3, 0⟩ := by decide +kernel

/-- DOMAIN_OPEN, DOMAIN_SET, SET_FENCE and PURGE: every check at its bound, in order. -/
theorem witness_DomainCommandsRefusedInOrder :
    ([0x10, 0x30F, 0x11000F, 0x400F, 0x00].map fun a => code .domainOpen (cmd 0x08 [a]) busy) =
      [some 3, some 3, some 3, some 3, some 8] ∧
    ([0x10, 0x300, 0x110000, 0x4000, 0x01, 0x0F, 0x00].map fun a => code .domainSet (cmd 0x09 [a]) busy) =
      [some 3, some 3, some 3, some 3, some 8, some 8, some 16] ∧
    ([[0x10], [0x100, 0x4001D], [0x101, 0x1D], [0x100, 0x0B], [0x100, 0x29], [0x100, 0x1C], [0x00]].map fun a =>
      code .setFence (cmd 0x0A a) busy) = [some 3, some 3, some 8, some 9, some 9, some 16, some 16] ∧
    ([0x10, 0x01, 0x0F].map fun a => code .purge (cmd 0x0F [a]) busy) = [some 3, some 8, some 8] := by decide +kernel

/-- FREEZE, THAW, HALT and RELEASE on D0 ACTIVE, D1 PURGING, D2 HALTED, D3 FROZEN, D15 UNUSED, and D16. -/
theorem witness_DomainStateCommands :
    ([0, 1, 2, 3, 15, 16].map fun d => code .freeze (cmd 0x0B [d]) busy) = [some 0, some 8, some 8, some 8, some 8, some 3] ∧
    ([0, 1, 2, 3, 15, 16].map fun d => code .thaw (cmd 0x0C [d]) busy) = [some 8, some 8, some 8, some 0, some 8, some 3] ∧
    ([0, 1, 2, 3, 15, 16].map fun d => code .halt (cmd 0x0D [d]) busy) = [some 0, some 8, some 8, some 0, some 8, some 3] ∧
    ([0, 1, 2, 3, 15, 16].map fun d => code .release (cmd 0x0E [d]) busy) =
      [some 8, some 8, some 0, some 8, some 8, some 3] := by decide +kernel

theorem test_release_clears_halt_cause :
    (busy.domains[(2 : DomId)]).haltCause.isSome = true ∧
    ((after .release (withCmd (cmd 0x0E [2]) busy)).domains[(2 : DomId)]).haltCause = none ∧
    (((after .release (withCmd (cmd 0x0E [2]) busy)).ports[(0 : Fin 4)]).noticeSet[(1 : Fin 15)]) = true := by decide +kernel

/-- A purge that waits for a drain and one that ends at once. -/
theorem witness_PurgeEndsDomainOrWaitsForDrain :
    takes 0x0F (cmd 0x0F [0]) (withCmd (cmd 0x0F [0]) busy) ∧ inService d0.state ∧ d0.chain.Nodup ∧
    inService (busy.domains[(3 : DomId)]).state ∧ code .purge (cmd 0x0F [0]) busy = some 1 ∧
    code .purge (cmd 0x0F [3]) busy = some 0 := by decide +kernel

theorem test_purge :
    (after .purge (withCmd (cmd 0x0F [0]) busy)).domains[(0 : DomId)] =
      { d0 with state := .purging, chain := [], selfCount := 0, drainingCount := 1 } ∧
    ((after .purge (withCmd (cmd 0x0F [0]) busy)).windows[(2 : SlotId)]).state = .free ∧
    (((after .purge (withCmd (cmd 0x0F [0]) busy)).bindings[(0 : Fin 4)])[(0 : Fin 15)]).bound = none := by decide +kernel

theorem witness_DomainReadsReturnRecordAndChain :
    takes 0x10 (cmd 0x10 [15]) (withCmd (cmd 0x10 [15]) busy) ∧ 15 < argField (cmd 0x10 [16]).args 0 0 8 ∧
    argField (cmd 0x10 [15]).args 0 0 8 = (15 : DomId).val ∧
    takes 0x11 (cmd 0x11 [0x7F0F]) (withCmd (cmd 0x11 [0x7F0F]) busy) ∧ argField (cmd 0x11 [0x7F0F]).args 0 8 8 ≤ 127 ∧
    127 < argField (cmd 0x11 [0x8000]).args 0 8 8 := by decide +kernel

theorem test_domain_reads :
    word 1 .readDomain (cmd 0x10 [0]) busy = 0x01022301 ∧ word 2 .readDomain (cmd 0x10 [0]) busy = 0x00030102 ∧
    word 1 .readChain (cmd 0x11 [0x0100]) busy = 0x0203 ∧ word 2 .readChain (cmd 0x11 [0x0100]) busy = 0x0201 ∧
    code .readChain (cmd 0x11 [0x8000]) busy = some 3 := by decide +kernel

/-! ## Bindings -/

/-- BIND, UNBIND and STREAM_SET accepted, then every check at its bound, in order. -/
theorem witness_BindingCommandsWriteOneEntry :
    ([0x000301, 0x000304, 0x000001, 0x001001, 0x100301, 0x010301, 0x000100].map fun a => code .bind (cmd 0x12 [a]) busy) =
      [some 0, some 3, some 4, some 4, some 3, some 8, some 16] ∧
    ([0x0100, 0x0104, 0x0000, 0x1000, 0x0F00].map fun a => code .unbind (cmd 0x13 [a]) busy) =
      [some 0, some 3, some 4, some 4, some 4] ∧
    ([0x110F03, 0x000104, 0x020103, 0x200103, 0x000003, 0x001003].map fun a => code .streamSet (cmd 0x14 [a]) busy) =
      [some 0, some 3, some 3, some 3, some 4, some 4] := by decide +kernel

theorem test_binding_writes :
    (((after .bind (withCmd (cmd 0x12 [0x000301]) busy)).bindings[(1 : Fin 4)])[(2 : Fin 15)]).bound = some 0 ∧
    (((after .streamSet (withCmd (cmd 0x14 [0x110F03]) busy)).bindings[(3 : Fin 4)])[(14 : Fin 15)]) = ⟨true, .absorb, none⟩ := by
  decide +kernel

/-! ## Resolution -/

/-- `busy` with a budget of 64 bytes on window 0. -/
def budgeted : State := busy.setWindow 0 { busy.window 0 with budget := some ⟨64, 64⟩ }

/-- Every way a resolution can end, at the bounds of window 0: before it, its first and last byte, one past its end, an RDS
without SPECULATIVE, an OFFLINE target, a spent budget, a suspended window. -/
theorem witness_ResolutionStagesInOrder :
    [aReq .rd 3 0 1, aReq .rd 2 0 1, aReq .rd 1 0 1, aReq .rd 0 0x3FFFFF 1, aReq .rd 0 0x400000 1, aReq .rd 0 0x40FFFF 1,
      aReq .rd 0 0x40FFFF 2, aReq .rds 0 0x400000 1, aReq .wr 0 0x500000 8].map busy.ruling =
    [.noStream, .unbound .absorb, .halted, .miss 0 .refuse, .admits 0 0, .admits 0 0, .boundary 0 0, .access 0 0,
      .targetOffline 0 1] ∧
    budgeted.ruling (aReq .rd 0 0x400000 64) = .admits 0 0 ∧ budgeted.ruling (aReq .rd 0 0x400000 65) = .budget 0 0 ∧
    (busy.setWindow 0 { busy.window 0 with state := .suspended }).ruling (aReq .rd 0 0x400000 1) = .suspended 0 0 := by
  decide +kernel

/-- The conditions of an examination, which the four statements about one share. -/
theorem witness_examination :
    ((withReq (aReq .rd 0 0x400000 8) busy).ports[(0 : Fin 4)]).state = .up ∧
    ((withReq (aReq .rd 0 0x400000 8) busy).ports[(0 : Fin 4)]).ingress = aReq .rd 0 0x400000 8 :: [] ∧
    (aReq .rd 0 0x400000 8).link = 0 ∧ lowestFreeEntry (withReq (aReq .rd 0 0x400000 8) busy) 0 2 := by decide +kernel

/-- The reply an examination hands, for each ruling that ends without an admission. -/
theorem witness_ExaminationAnswersWithoutAdmission :
    ([aReq .rd 3 0 1, aReq .rds 0 0x400000 1, aReq .rd 2 0 2, aReq .wr 2 0 2, aReq .rd 1 0 1, aReq .wr 0 0x500000 8].map
      fun q => ((after (.examination 0) (withReq q busy)).ports[(0 : Fin 4)]).outData.map (·.answer)) =
    [[.refused .noStream], [.refused .specDeclined], [.data [0, 0]], [.done], [.refused .domainHalted],
      [.refused .targetOffline]] ∧
    ((after (.examination 0) (withReq (aReq .rd 0 0x400000 65) budgeted)).ports[(0 : Fin 4)]).outData.map (·.answer) =
      [.refused .budget] ∧
    ((after (.examination 0) (withReq (aReq .rd 0 0 1) (busy.setDomain 0 { d0 with missPolicy := .refuseQuiet }))).ports[
      (0 : Fin 4)]).outData.map (·.answer) = [.refused .noWindow] ∧
    ((after (.examination 0) (withReq (aReq .rd 0 0 1) (busy.setDomain 0 { d0 with missPolicy := .absorb }))).ports[
      (0 : Fin 4)]).outData.map (·.answer) = [.data [0]] ∧
    ((after (.examination 0) (withReq (aReq .rd 0 0x400000 1)
      (busy.setWindow 0 { busy.window 0 with state := .suspended }))).ports[(0 : Fin 4)]).outData.map (·.answer) =
      [.refused .suspended] := by decide +kernel

/-- The three kinds of fault, below and at the limit (12.3). -/
theorem witness_ExaminationCountsFaultAndHalts :
    (withReq (aReq .rd 0 0x3FFFFF 1) busy).ruling (aReq .rd 0 0x3FFFFF 1) = .miss 0 .refuse ∧
    (withReq (aReq .rd 0 0x40FFFF 2) busy).ruling (aReq .rd 0 0x40FFFF 2) = .boundary 0 0 ∧
    (busy.setWindow 0 { busy.window 0 with perms := ⟨true, false, false⟩ }).ruling (aReq .wr 0 0x400000 1) = .access 0 0 ∧
    d0.faultLimit ≠ 0 ∧ d0.faultLimit ≤ d0.faultCount + 1 ∧ { d0 with faultLimit := 3 }.faultCount + 1 < 3 ∧
    ((after (.examination 0) (withReq (aReq .rd 0 0x40FFFF 2) busy)).domains[(0 : DomId)]).haltCause =
      some ⟨.boundary, 0, 0, 0x40FFFF⟩ ∧
    ((after (.examination 0) (withReq (aReq .rd 0 0 1) (busy.setDomain 0 { d0 with faultLimit := 3 }))).domains[
      (0 : DomId)]) = { d0 with faultLimit := 3, faultCount := 2 } := by decide +kernel

/-- Admissions that spend a budget, leave one, and meet none. -/
theorem witness_ExaminationAdmitsIntoTracker :
    budgeted.ruling (aReq .rd 0 0x400000 64) = .admits 0 0 ∧ budgeted.ruling (aReq .rd 0 0x400000 63) = .admits 0 0 ∧
    ((after (.examination 0) (withReq (aReq .rd 0 0x400010 64) budgeted)).windows[(0 : SlotId)]).alert = true ∧
    (after (.examination 0) (withReq (aReq .rd 0 0x400010 64) budgeted)).events.dom 0 .budgetSpent = true ∧
    ((after (.examination 0) (withReq (aReq .rd 0 0x400010 64) budgeted)).entries[(0 : Fin 4)])[(2 : Fin 8)] =
      .waitTag ⟨9, .rd, 0, 64, ⟨0, 1⟩, 0, 0x80000010, none⟩ := by decide +kernel

def probeCmd (arg0 len low high : Nat) : Command := cmd 0x18 [arg0, len, low, high]

/-- PROBE admitted, absorbed and declined, then every check of R138 at its bound, in order. -/
theorem witness_ProbeReportsWithoutChange :
    word 1 .probe (probeCmd 0x10100 512 0x400010 0) busy = 0x121 ∧ word 2 .probe (probeCmd 0x10100 512 0x400010 0) busy = 0x10000 ∧
    word 3 .probe (probeCmd 0x10100 512 0x400010 0) busy = 0x80000010 ∧
    word 1 .probe (probeCmd 0x00300 1 0 0) busy = 0x20 ∧ word 1 .probe (probeCmd 0x20100 1 0x400010 0) busy = 0x10C ∧
    ([(0x00104, 1, 0, 0), (0x00000, 1, 0, 0), (0x01000, 1, 0, 0), (0x30100, 1, 0, 0), (0x00100, 0, 0, 0), (0x00100, 513, 0, 0),
      (0x00100, 1, 0, 0x10000), (0x00100, 2, 0xFFFFFFFF, 0xFFFF)].map fun a =>
        code .probe (probeCmd a.1 a.2.1 a.2.2.1 a.2.2.2) busy) =
      [some 3, some 4, some 4, some 3, some 3, some 3, some 3, some 3] := by decide +kernel

/-! ## The tracker and the fabric side -/

theorem witness_GrantServesNextLinkWithLowestTag :
    busy.fabric.tags[(0 : TagNo)] = .free ∧ (0 : LinkId) = busy.fabric.lastGranted + 1 + 0 ∧
    busy.waiting[(0 : LinkId)] = 1 :: [] ∧ (busy.entries[(0 : LinkId)])[(1 : EntryNo)] = .waitTag (aRequest 4 0 0) := by
  decide +kernel

/-- 12.1: the first grant takes tag 0 with a deadline 1,000 µs on. -/
theorem test_grant :
    ((after .grant busy).entries[(0 : LinkId)])[(1 : EntryNo)] = .issued (aRequest 4 0 0) 0 1000 ∧
    (after .grant busy).fabricSent = [⟨0, 0, false, 0x80000100, 64, none⟩] := by decide +kernel

theorem witness_CompletionMatchedByTag :
    23 < 24 ∧ busy.fabric.tags[(23 : TagNo)] = .free ∧ busy.fabric.tags[(7 : TagNo)] = .quarantined 2 ∧
    busy.fabric.tags[(5 : TagNo)] = .held 0 0 ∧
    (busy.entries[(0 : LinkId)])[(0 : EntryNo)] = .issued (aRequest 3 3 0) 5 900 := by decide +kernel

/-- Stray, late, and matched completions; the matched one frees the last window of a purge (12.4). -/
theorem test_completion :
    (after (.completion 24 .ok []) busy).events.dev .strayCompletion = true ∧
    (after (.completion 7 .ok []) busy).events.dev .lateCompletion = true ∧
    ((after (.completion 5 .ok (List.replicate 64 1)) busy).ports[(0 : LinkId)]).outData =
      [⟨3, 0, .data (List.replicate 64 1)⟩] ∧
    ((after (.completion 5 .ok (List.replicate 63 1)) busy).ports[(0 : LinkId)]).outData = [⟨3, 0, .refused .targetError⟩] ∧
    (after (.completion 5 .ok []) busy).events.dom 1 .domainPurged = true ∧
    (after (.completion 5 .ok []) busy).domains[(1 : DomId)] = Domain.unused := by decide +kernel

theorem witness_DeadlineExpiryQuarantinesTag :
    (busy.entries[(0 : LinkId)])[(0 : EntryNo)] = .issued (aRequest 3 3 0) 5 900 ∧
    (after (.deadlineExpiry 0 0) busy).fabric.tags[(5 : TagNo)] = .quarantined 0 ∧ (after (.deadlineExpiry 0 0) busy).now = 900 := by
  decide +kernel

/-- The four cases of TARGET_SET and its refusals; the state of the fourth case has its tag held by its ISSUED entry. -/
theorem witness_TargetSetFourCases :
    ([0x100, 0x002, 0x000, 0x102].map fun a => word 1 .targetSet (cmd 0x15 [a]) busy) = [0x1, 0x0, 0x101, 0x10000] ∧
    word 1 .targetSet (cmd 0x15 [0x100]) (after .targetSet (withCmd (cmd 0x15 [0x000]) busy)) = 0x100 ∧
    ([0x104, 0x200].map fun a => code .targetSet (cmd 0x15 [a]) busy) = [some 3, some 3] := by decide +kernel

theorem witness_SetTimeoutChangesSettingAlone :
    ([15, 16, 16384, 16385].map fun v => code .setTimeout (cmd 0x16 [v]) busy) = [some 3, some 0, some 0, some 3] ∧
    word 1 .setTimeout (cmd 0x16 [16]) busy = 1000 := by decide +kernel

/-! ## In-band control -/

/-- Discarded on a link that is not UP; no credit; a repeated tag; an unknown operation; a wrong length; a full queue;
queued. -/
theorem witness_ControlArrivalCheckedInOrder :
    after (.ctl 1 0 1 4 []) busy = busy ∧
    ((after (.ctl 0 0 1 4 []) (busy.setPort 0 { lp0 with ctlCredits := 0 })).ports[(0 : LinkId)]).errorCause =
      some .noControlCredit ∧
    ((after (.ctl 0 1 1 4 []) (busy.setPort 0 { lp0 with unrepliedCtl := lp0.unrepliedCtl.set 1 true })).ports[
      (0 : LinkId)]).errorCause = some .duplicateControlTag ∧
    ([(.ctl 0 1 1 5 [] : Instr), .ctl 0 1 1 0 [], .ctl 0 1 1 4 [0], .ctl 0 1 1 1 []].map fun c =>
      ((after c busy).ports[(0 : LinkId)]).outCtl.map (·.code)) =
      [[.badArgument], [.badArgument], [.badArgument], [.badArgument]] ∧
    (after (.ctl 0 1 1 4 []) (busy.setEngine { busy.engine with inband := List.replicate 6 (aCtl .status 1 []) })).events.dev
      .inbandFull = true ∧
    (after (.ctl 0 1 0x31 4 []) busy).engine.inband = [aCtl .status 0x31 []] := by decide +kernel

theorem witness_takesControl :
    takesControl .openWindow (aCtl .openWindow 1 (openBody 0x10FF0000 16 3)) []
      (withCtl (aCtl .openWindow 1 (openBody 0x10FF0000 16 3)) busy) := by decide +kernel

/-- OPEN: stream 0, permissions, an unbound stream, a domain that is not ACTIVE, size and base at their bounds, outside the
fence by one page, ceiling, allowance, no FREE slot. -/
theorem witness_open_refused_in_order :
    ([aCtl .openWindow 0 (openBody 0x10000000 16 3), aCtl .openWindow 1 (openBody 0x10000000 16 4),
      aCtl .openWindow 3 (openBody 0x10000000 16 3), aCtl .openWindow 2 (openBody 0x10000000 16 3),
      aCtl .openWindow 1 (openBody 0x10000000 11 3), aCtl .openWindow 1 (openBody 0 41 3),
      aCtl .openWindow 1 (openBody (2 ^ 48) 12 3), aCtl .openWindow 1 (openBody 0x11000000 12 3),
      aCtl .openWindow 1 (openBody 0x0FFFF000 12 3), aCtl .openWindow 1 (openBody 0x10FFF000 12 7)].map
        (ctlCode .openWindow · busy)) =
      [some 4, some 3, some 4, some 17, some 9, some 9, some 9, some 13, some 13, some 15] ∧
    ctlCode .openWindow (aCtl .openWindow 1 (openBody 0x10FFF000 12 3)) (busy.setDomain 0 { d0 with selfAllowance := 1 }) =
      some 14 ∧
    ctlCode .openWindow (aCtl .openWindow 1 (openBody 0x10FFF000 12 3)) full = some 11 := by decide +kernel

/-- CLOSE, NARROW and STATUS: no slot, a stale handle, an unbound stream, a domain that is not ACTIVE, a DRAINING window, a
window of management. -/
theorem witness_handled_refused_in_order :
    ([handleBody 128 1, handleBody 2 2, handleBody 3 1, handleBody 0 1].map fun b =>
      ctlCode .closeWindow (aCtl .closeWindow 1 b) busy) = [some 5, some 6, some 7, some 12] ∧
    ([handleBody 128 1, handleBody 2 2, handleBody 3 1, handleBody 0 1].map fun b =>
      ctlCode .narrow (aCtl .narrow 1 (b ++ [1, 0, 0, 0])) busy) = [some 5, some 6, some 7, some 12] ∧
    ([0, 2, 3].map fun n => ctlCode .status (aCtl .status n []) busy) = [some 4, some 17, some 4] ∧
    ctlCode .closeWindow (aCtl .closeWindow 3 (handleBody 2 1)) busy = some 4 := by decide +kernel

theorem witness_OpenCreatesSelfWindow :
    ((busy.bindings[(0 : LinkId)])[(0 : DataStream)]).bound = some 0 ∧ d0.state = .active ∧ permsFit rw ∧
    areaFits 16 0x10FF0000 ∧ d0.fence = some ⟨0x10000000, 24, 1, 0x90000000⟩ ∧
    insideFence ⟨0x10000000, 24, 1, 0x90000000⟩ 0x10FF0000 16 ∧ rw.subset d0.selfCeiling = true ∧
    d0.selfCount ≠ d0.selfAllowance ∧ lowestFree busy 4 ∧ d0.chain = [0, 1, 2] ++ [] ∧
    (∀ j ∈ ([0, 1, 2] : List SlotId), (busy.windows[j]).rank < 129) := by decide +kernel

theorem witness_open_lowest_self_rank (k : Nat) (h1 : 128 ≤ k) (h2 : k < 129) :
    ∃ j ∈ ([0, 1, 2] : List SlotId), (busy.windows[j]).rank = k := by
  obtain rfl : k = 128 := by omega
  exact ⟨2, by decide, by decide +kernel⟩

/-- 12.5: the OPEN at 0x1080_0000 translates to 0x9080_0000 at rank 129. -/
theorem test_open_translates_from_fence :
    (after .openWindow (withCtl (aCtl .openWindow 1 (openBody 0x10800000 20 1)) busy)).windows[(4 : SlotId)] =
      { aWindow 0 .self 129 20 0x10800000 1 0x90800000 0 with perms := ⟨true, false, false⟩ } ∧
    (after .openWindow (withCtl (aCtl .openWindow 1 (openBody 0x10800000 20 1)) busy)).events.dom 0 .selfChanged = true := by
  decide +kernel

theorem witness_CloseAndNarrowChangeOwnWindow :
    takesControl .closeWindow (aCtl .closeWindow 1 (handleBody 2 1)) [] (withCtl (aCtl .closeWindow 1 (handleBody 2 1)) busy) ∧
    takesControl .narrow (aCtl .narrow 1 (handleBody 2 1 ++ [1, 0, 0, 0])) []
      (withCtl (aCtl .narrow 1 (handleBody 2 1 ++ [1, 0, 0, 0])) busy) ∧
    fieldAtBytes (handleBody 2 1) 0 2 = (2 : SlotId).val ∧ byteAt (handleBody 2 1) 2 = (busy.windows[(2 : SlotId)]).generation ∧
    (busy.windows[(2 : SlotId)]).state = .live ∧ (busy.windows[(2 : SlotId)]).owner = .self ∧
    (busy.windows[(2 : SlotId)]).domain = 0 ∧ d0.chain = [0, 1] ++ 2 :: [] ∧ (2 : SlotId) ∉ ([0, 1] ++ [] : List SlotId) := by
  decide +kernel

theorem test_close_and_narrow :
    ((after .closeWindow (withCtl (aCtl .closeWindow 1 (handleBody 2 1)) busy)).windows[(2 : SlotId)]).state = .free ∧
    ((after .narrow (withCtl (aCtl .narrow 1 (handleBody 2 1 ++ [6, 0, 0, 0])) busy)).windows[(2 : SlotId)]).perms =
      ⟨false, true, false⟩ := by decide +kernel

theorem witness_StatusReportsSelfWindows :
    takesControl .status (aCtl .status 0x31 []) [] (withCtl (aCtl .status 0x31 []) busy) ∧
    (0x31 : Byte).toNat % 16 = (0 : DataStream).val + 1 ∧
    (((after .status (withCtl (aCtl .status 0x31 []) busy)).ports[(0 : LinkId)]).outCtl.map (·.body)) =
      [[1, 1, 2, 1, 0, 0, 0, 0, 2, 0, 1, 1, 0, 0, 0, 0x10, 0, 0, 0, 0, 16, 3, 0, 0]] := by decide +kernel

/-! ## Peripheral links -/

/-- Each line of R164 at its bounds, as the cause it records, and an accepted request of 512 bytes that ends at the last
address. -/
theorem witness_DataRequestAcceptedOrProtocolError :
    ([(.rd 0 9 0 0 1 : Instr), .rd 0 9 1 0 0, .rd 0 9 1 0 513, .rd 0 9 1 0xFFFFFFFFFE01 512, .rd 0 3 1 0 1].map fun c =>
      ((after c busy).ports[(0 : LinkId)]).errorCause) =
      [some .streamZero, some .badLength, some .badLength, some .badRange, some .duplicateTag] ∧
    ((after (.wr 0 9 1 0 [7]) (busy.setPort 0 { lp0 with dataCredits := 0 })).ports[(0 : LinkId)]).errorCause =
      some .noDataCredit ∧
    ((after (.rds 0 9 15 0xFFFFFFFFFE00 512) busy).ports[(0 : LinkId)]).ingress =
      [⟨0, 9, .rds, 14, 0xFFFFFFFFFE00, 512, none⟩] ∧
    after (.wr 1 9 1 0 [7]) busy = busy := by decide +kernel

/-- The link states of `busy` with DISABLED on LP1, for the statements that take every link state. -/
theorem witness_link_states :
    (busy.ports[(0 : LinkId)]).state = .up ∧ (busy.ports[(1 : LinkId)]).state = .down ∧
    (busy.ports[(2 : LinkId)]).state = .training ∧ (busy.ports[(2 : LinkId)]).helloTimer = some 1000 ∧
    (busy.ports[(3 : LinkId)]).state = .resetting ∧ (busy.ports[(3 : LinkId)]).handshakeTimer = some 10000 ∧
    ((after .linkSet (withCmd (cmd 0x17 [0x101]) busy)).ports[(1 : LinkId)]).state = .disabled := by decide +kernel

theorem test_training :
    ((after (.hello 2) busy).ports[(2 : LinkId)]).state = .up ∧ ((after (.hello 2) busy).ports[(2 : LinkId)]).dataCredits = 12 ∧
    ((after (.signalDetection 1) busy).ports[(1 : LinkId)]).state = .training ∧
    ((after (.helloTimerExpiry 2) busy).ports[(2 : LinkId)]).helloTimer = some 2000 ∧
    ((after (.handshakeTimerExpiry 3) busy).ports[(3 : LinkId)]).helloTimer = some 11000 := by decide +kernel

theorem test_leaving_up :
    ((after (.linkReset 0) busy).ports[(0 : LinkId)]).state = .training ∧
    ((after (.signalLoss 0) busy).ports[(0 : LinkId)]).state = .down ∧
    ((after (.unknownKind 0) busy).ports[(0 : LinkId)]).errorCause = some .unknownKind ∧
    (after (.linkReset 0) busy).fabric.tags[(5 : TagNo)] = .quarantined 0 ∧
    (after (.linkReset 0) busy).events.dev .quarantine = true ∧
    (after (.linkReset 0) busy).events.dom 1 .windowFreed = true ∧
    (after (.linkReset 0) busy).waiting[(0 : LinkId)] = [] := by decide +kernel

/-- LINK_SET: the result of ENABLE, DISABLE and RESET on LP0 to LP3, ENABLE of a DISABLED link, and the refusals. -/
theorem witness_LinkSetActionTable :
    ([0, 1, 2, 3].map fun l => word 1 .linkSet (cmd 0x17 [l]) busy) = [0x303, 0x101, 0x202, 0x404] ∧
    ([0, 1, 2, 3].map fun l => word 1 .linkSet (cmd 0x17 [0x100 + l]) busy) = [0x003, 0x001, 0x002, 0x004] ∧
    ([0, 1, 2, 3].map fun l => word 1 .linkSet (cmd 0x17 [0x200 + l]) busy) = [0x403, 0x101, 0x202, 0x404] ∧
    word 1 .linkSet (cmd 0x17 [0x001]) (after .linkSet (withCmd (cmd 0x17 [0x101]) busy)) = 0x100 ∧
    ([0x004, 0x300].map fun a => code .linkSet (cmd 0x17 [a]) busy) = [some 3, some 3] := by decide +kernel

theorem witness_NoticeSpendsCreditAndAckReturnsIt :
    ((busy.pendNotice 0 none).ports[(0 : LinkId)]).noticeSet[(0 : DataStream)] = true ∧
    (after (.notice 0) (busy.pendNotice 0 none)).sent = [(0, [0x15, 0, 0, 0, 2, 0])] ∧
    ((after (.notice 0) (busy.pendNotice 0 none)).ports[(0 : LinkId)]).noticeCredit = .outstanding ∧
    (busy.ports[(0 : LinkId)]).noticeCredit = .held ∧ ((after (.noticeAck 0) busy).ports[(0 : LinkId)]).errorCause =
      some .strayAck ∧
    ((after (.noticeAck 0) (after (.notice 0) (busy.pendNotice 0 none))).ports[(0 : LinkId)]).noticeCredit = .held ∧
    after (.notice 0) busy = busy := by decide +kernel

theorem witness_SendingRepliesReturnsCredits :
    ((after (.deadlineExpiry 0 0) busy).ports[(0 : LinkId)]).outData = [] ++ ⟨3, 0, .refused .timeout⟩ :: [] ∧
    (after (.sendDataReply 0 3) (after (.deadlineExpiry 0 0) busy)).sent = [(0, [0x13, 3, 1, 0x0B])] ∧
    ((after (.sendDataReply 0 3) (after (.deadlineExpiry 0 0) busy)).ports[(0 : LinkId)]).dataCredits = 11 ∧
    (after (.sendCtlReply 0 1) (after (.ctl 0 1 0x31 5 []) busy)).sent = [(0, [0x14, 1, 0x31, 3])] := by decide +kernel

/-! ## The laws, in a state that meets them all and takes a step -/

theorem witness_step : ∃ t, step busy = .next t := ⟨_, rfl⟩

theorem witness_outOfServiceIsEmpty : outOfServiceIsEmpty busy := by
  unfold outOfServiceIsEmpty
  decide +kernel

theorem witness_chainsSound : chainsSound busy := by
  unfold chainsSound
  decide +kernel

theorem witness_freeSlotsCleared : freeSlotsCleared busy := by
  unfold freeSlotsCleared
  decide +kernel

theorem witness_permissionsLegal : permissionsLegal busy := by
  unfold permissionsLegal
  decide +kernel

theorem witness_faultsConsistent : faultsConsistent busy := by
  unfold faultsConsistent
  decide +kernel

theorem witness_timersAndSignals : timersAndSignals busy := by
  unfold timersAndSignals
  decide +kernel

theorem witness_waitingListsSound : waitingListsSound busy := by
  unfold waitingListsSound
  decide +kernel

theorem witness_dataCreditLaw : dataCreditLaw busy := by
  unfold dataCreditLaw
  decide +kernel

theorem witness_ctlCreditLaw : ctlCreditLaw busy := by
  unfold ctlCreditLaw
  decide +kernel

theorem witness_linksQuietUnlessUp : linksQuietUnlessUp busy := by
  unfold linksQuietUnlessUp linkQuiet
  decide +kernel

theorem witness_budgetsBounded : budgetsBounded busy := by
  have h : ∀ i : SlotId, (busy.window i).budget = none ∧ (busy.window i).alert = false := by decide +kernel
  intro i
  unfold budgetBounds
  rw [(h i).1]
  exact (h i).2

theorem witness_geometryAligned : geometryAligned busy := by
  have h : ∀ d : DomId, ∀ f ∈ (busy.domain d).fence, areaAligned f.base f.sizeExp f.targetBase := by
    unfold areaAligned
    decide +kernel
  refine ⟨?_, fun d f hf => h d f hf⟩
  unfold areaAligned
  decide +kernel

theorem witness_selfWindowsFenced : selfWindowsFenced busy := by
  have h : ∀ d : DomId, ∀ i ∈ (busy.domain d).chain, (busy.window i).owner = .self →
      (busy.domain d).fence = some ⟨0x10000000, 24, 1, 0x90000000⟩ ∧
      (⟨0x10000000, 24, 1, 0x90000000⟩ : Fence).contains (busy.window i).base.toNat (busy.window i).sizeExp = true := by
    decide +kernel
  exact fun d i hi ho => ⟨_, h d i hi ho⟩

theorem witness_referencesCounted : referencesCounted busy := by
  have h : ∀ (l : LinkId) (e : EntryNo), ∀ r ∈ (busy.entry l e).request?,
      (busy.window r.window.slot).generation = r.window.generation ∧ (busy.window r.window.slot).state ≠ .free := by
    decide +kernel
  refine ⟨by decide +kernel, fun l e r hr => h l e r hr, by decide +kernel⟩

theorem witness_waitersTargetOnline : waitersTargetOnline busy := by
  intro l e r h
  rcases busy_entries l e with h1 | ⟨rfl, rfl, h1⟩ | ⟨rfl, rfl, h1⟩
  · rw [h1] at h
    cases h
  · rw [h1] at h
    cases h
  · rw [h1] at h
    cases h
    decide +kernel

theorem witness_statusMatchesSlot : statusMatchesSlot busy := by
  refine ⟨by decide +kernel, fun c h => ?_, by decide +kernel, by decide +kernel⟩
  cases h

end Sys2Proof.Tests
end

section
/-! SUPPORT. What one event can do to the window table, the policies of the domains and the window references of the
tracker: the tables' moves, each with the guard under which the part makes it. Every event is a sequence of these moves,
so a law of the tables that each move keeps is kept by every step. -/

namespace Sys2Proof.Machine

/-! ## The moves -/

/-- The window handle the tracker entry `le` holds; a FREE entry holds none (R86, R90). -/
def State.heldBy (s : State) (le : LinkId × EntryNo) : Option Handle :=
  (s.entry le.1 le.2).request?.map (·.window)

/-- A record as the installing commands write it: LIVE or SUSPENDED, unreferenced, with a legal permission set and a
budget in its bounds (R14, R15, R17, R147). -/
structure Window.Fresh (w : Window) : Prop where
  inUse : w.state = .live ∨ w.state = .suspended
  unreferenced : w.refs = 0
  legal : w.perms.legal = true
  bounded : budgetBounds w

/-- A record changed in place: its name, its area and its references stay, it stays in use, and its permissions and its
budget keep their laws (R12, R21, R22, R23, R149). -/
structure Window.EditedTo (w v : Window) : Prop where
  generation : v.generation = w.generation
  base : v.base = w.base
  sizeExp : v.sizeExp = w.sizeExp
  targetBase : v.targetBase = w.targetBase
  refs : v.refs = w.refs
  inUse : w.state ≠ .free
  stays : v.state ≠ .free
  draining : v.state = .draining → w.state = .draining
  legal : w.perms.legal = true → v.perms.legal = true
  bounded : budgetBounds w → budgetBounds v

/-- What a domain record may turn into: its self ceiling stays legal, and a fence it did not have before is aligned
(R27, R39, R40, R41). -/
structure Domain.Follows (x y : Domain) : Prop where
  ceiling : x.selfCeiling.legal = true → y.selfCeiling.legal = true
  fence : ∀ f, y.fence = some f → x.fence = some f ∨ areaAligned f.base f.sizeExp f.targetBase

/-- One move at the tables. -/
inductive TableMove (s : State) : State → Prop
  /-- the windows and the references stay, the domains follow their rules -/
  | domains {t : State} (hw : t.windows = s.windows) (hd : ∀ d, (s.domain d).Follows (t.domain d))
      (hh : t.heldBy = s.heldBy) : TableMove s t
  /-- a FREE slot is filled (R4, R15) -/
  | fills {i : SlotId} {w : Window} (hfree : (s.window i).state = .free) (hw : w.Fresh)
      (ha : geometryAligned s → areaAligned w.base w.sizeExp w.targetBase) : TableMove s (s.fillSlot i w)
  /-- a window is changed in place -/
  | edits {i : SlotId} {w : Window} (hw : (s.window i).EditedTo w) : TableMove s (s.setWindow i w)
  /-- a window is removed (R7) -/
  | removes (d : DomId) (i : SlotId) : TableMove s (s.removeWindow d i)
  /-- a tracker entry ends and drops its reference (R9, R98) -/
  | drops (fate : TagFate) (l : LinkId) (e : EntryNo) : TableMove s (s.endEntry fate l e)
  /-- a request is admitted into a FREE tracker entry and charged to a LIVE window (R66, R90) -/
  | admits {l : LinkId} {e : EntryNo} {i : SlotId} {n : Nat} {r : EntryReq} (he : s.entry l e = .free)
      (hi : (s.window i).state = .live) (hr : r.window = s.handleOf i) :
      TableMove s ((s.charge i n).enterTracker l e r)
  /-- the tables are reset (R26) -/
  | restarts {t : State} (hw : ∀ i, ∃ g, t.window i = Window.cleared g) (hd : ∀ d, t.domain d = Domain.unused)
      (hh : ∀ le, t.heldBy le = none) : TableMove s t

/-- A sequence of moves at the tables. -/
abbrev TableMoves : State → State → Prop := Relation.ReflTransGen TableMove

/-! ## Sequences of moves -/

theorem Domain.Follows.refl (x : Domain) : x.Follows x := ⟨id, fun _ h => .inl h⟩

/-- A domain that keeps its self ceiling and its fence follows its rules. -/
theorem Domain.Follows.of_eq {x y : Domain} (hc : y.selfCeiling = x.selfCeiling) (hf : y.fence = x.fence) :
    x.Follows y := ⟨fun h => by rw [hc, h], fun f h => .inl (by rw [← hf, h])⟩

/-- A domain that becomes UNUSED follows its rules. -/
theorem Domain.Follows.unused (x : Domain) : x.Follows Domain.unused :=
  ⟨fun _ => Perms.empty_legal, fun _ h => by cases h⟩

theorem heldBy_of_entries {s t : State} (h : t.entries = s.entries) : t.heldBy = s.heldBy := by
  funext le
  simp only [State.heldBy, State.entry_eq, h]

/-- A state with the same windows, domains and entries is reached without a move of any record. -/
theorem TableMoves.of_tables {s t : State} (hw : t.windows = s.windows) (hd : t.domains = s.domains)
    (he : t.entries = s.entries) : TableMoves s t :=
  .single (.domains hw (fun d => by rw [State.domain_eq, State.domain_eq, hd]; exact .refl _) (heldBy_of_entries he))

/-- Moves that lead to a state lead to every state with the same windows, domains and entries. -/
theorem TableMoves.then_tables {s t u : State} (h : TableMoves s t) (hw : u.windows = t.windows)
    (hd : u.domains = t.domains) (he : u.entries = t.entries) : TableMoves s u := h.trans (TableMoves.of_tables hw hd he)

theorem TableMoves.setDomain {s : State} {d : DomId} {x : Domain} (h : (s.domain d).Follows x) :
    TableMoves s (s.setDomain d x) := by
  refine .single (.domains rfl (fun e => ?_) (heldBy_of_entries rfl))
  rw [State.domain_setDomain]
  split
  · next hd => exact hd ▸ h
  · exact .refl _

theorem TableMoves.modDomain {s : State} {d : DomId} {f : Domain → Domain} (h : (s.domain d).Follows (f (s.domain d))) :
    TableMoves s (s.modDomain d f) := .setDomain h

/-- A sequence of operations on the state is a sequence of moves when each of them is. -/
theorem TableMoves.foldl {α : Type} {f : State → α → State} (h : ∀ s a, TableMoves s (f s a)) (as : List α)
    (s : State) : TableMoves s (as.foldl f s) := by
  induction as generalizing s with
  | nil => exact .refl
  | cons a rest ih => exact (h s a).trans (ih _)

end Sys2Proof.Machine
end

section
/-! SUPPORT. The moves at the tables that the shared operations and the commands on windows make. -/

namespace Sys2Proof.Machine

/-! ## The moves of the shared operations -/

theorem State.noticeIfSelf_moves (w : Window) (s : State) : TableMoves s (s.noticeIfSelf w) :=
  .of_tables (by simp) (by simp) (by simp)

theorem State.chainInsert_moves (d : DomId) (i : SlotId) (r : Nat) (s : State) : TableMoves s (s.chainInsert d i r) :=
  TableMoves.modDomain (.of_eq rfl rfl)

theorem State.endWithReply_moves (fate : TagFate) (answer : EntryReq → DataAnswer) (l : LinkId) (e : EntryNo)
    (s : State) : TableMoves s (s.endWithReply fate answer l e) := by
  unfold State.endWithReply
  split
  · exact .refl
  · exact (TableMoves.then_tables (.single (.drops fate l e))) rfl rfl rfl

theorem State.endAll_moves (les : List (LinkId × EntryNo)) (s : State) : TableMoves s (s.endAll les) := by
  unfold State.endAll
  exact TableMoves.foldl (fun s le => s.endWithReply_moves _ _ le.1 le.2) les s

theorem State.leaveUp_moves (l : LinkId) (s : State) : TableMoves s (s.leaveUp l) := by
  have hend : TableMoves s (s.endLinkEntries l) :=
    (TableMoves.foldl (f := fun s e => s.endEntry .quarantined l e) (fun s e => .single (.drops .quarantined l e))
      (List.finRange 8) s).then_tables (State.setWaiting_windows ..) (State.setWaiting_domains ..)
      (State.setWaiting_entries ..)
  unfold State.leaveUp
  dsimp only
  split <;> exact hend.then_tables (by simp) (by simp) (by simp)

theorem State.enterDown_moves (l : LinkId) (s : State) : TableMoves s (s.enterDown l) :=
  .of_tables (by simp) (by simp) (by simp)

theorem State.partReset_moves (l : LinkId) (s : State) : TableMoves s (s.partReset l) :=
  (s.leaveUp_moves l).then_tables (by simp [State.partReset]) (by simp [State.partReset]) (by simp [State.partReset])

theorem State.protocolError_moves (l : LinkId) (c : ErrorCause) (s : State) : TableMoves s (s.protocolError l c) := by
  refine .trans ?_ (State.partReset_moves l _)
  exact TableMoves.of_tables rfl rfl rfl

/-! ## The moves of the takings at the engine -/

/-- A taking of a command makes the moves of its row. -/
theorem takeCommand_moves {mine : BitVec 8 → Bool} {act : Args → State → Done} {s t : State}
    (hact : ∀ a, TableMoves s (act a s).state) (h : takeCommand mine act s = .next t) : TableMoves s t := by
  obtain rfl | ⟨c, -, -, -, rfl⟩ := takeCommand_cases h
  · exact .refl
  · exact (hact c.args).then_tables rfl rfl rfl

/-- A taking of a control request makes the moves of its row. -/
theorem takeControl_moves {op : CtlOp} {act : CtlRequest → State → CtlDone} {s t : State}
    (hact : ∀ q, TableMoves s (act q s).state) (h : takeControl op act s = .next t) : TableMoves s t := by
  obtain rfl | ⟨q, rest, -, -, -, rfl⟩ := takeControl_cases h
  · exact .refl
  · exact (hact q).then_tables rfl rfl rfl

/-- A command with checks makes moves only when it passes them all. -/
theorem checked_moves {check : Option ResultCode} {effect : Unit → Done} {s : State}
    (h : check = none → TableMoves s (effect ()).state) : TableMoves s (Done.checked check effect s).state := by
  cases check with
  | none => exact h rfl
  | some c => exact .refl

/-! ### Commands on windows -/

/-- A handle that is current names a window that stands in its slot (R3). -/
theorem State.classify_eq_current {s : State} {h : RawHandle} {i : SlotId} (hc : s.classify h = .current i) :
    slotOf h = i ∧ (s.window i).state ≠ .free := by
  by_cases hs : 127 < h.slot
  · rw [State.classify_noSlot hs] at hc
    cases hc
  · have hlt : h.slot < 128 := by omega
    rw [State.classify_slot (i := ⟨h.slot, hlt⟩) rfl] at hc
    split at hc
    · next hw =>
      cases hc
      exact ⟨Fin.ext (Nat.mod_eq_of_lt hlt), hw.2⟩
    · cases hc

/-- A handle check that passes names a window that stands in the slot, and passes the checks behind it (R3, R134). -/
theorem handleCheck_eq_none {s : State} {h : RawHandle} {next : SlotId → Option ResultCode}
    (hc : handleCheck s h next = none) : (s.window (slotOf h)).state ≠ .free ∧ next (slotOf h) = none := by
  unfold handleCheck at hc
  split at hc
  · cases hc
  · cases hc
  · next i hi =>
    obtain ⟨rfl, hfree⟩ := State.classify_eq_current hi
    exact ⟨hfree, hc⟩

/-- The budget a command newly sets is in its bounds, with the alert clear (R11). -/
theorem newBudget_bounds {w : Window} {b : Option Nat} (hb : budgetOk b = true) (hw : w.budget = newBudget b)
    (ha : w.alert = false) : budgetBounds w := by
  rw [budgetOk_iff] at hb
  unfold budgetBounds
  cases b with
  | none => simp [hw, newBudget, ha]
  | some v =>
    obtain ⟨hpos, hmax⟩ := hb v rfl
    simp only [hw, newBudget, Option.map_some]
    exact ⟨hpos, hmax, le_rfl, fun h => absurd h (by omega)⟩

/-- A base and a target base that pass the geometry check are aligned to their size (R14). -/
theorem Geometry.aligned_of_ok {g : Geometry} (h : g.ok = true) (ht : g.targetBase < 2 ^ 64) :
    areaAligned (BitVec.ofNat 48 g.base) g.sizeExp (BitVec.ofNat 64 g.targetBase) := by
  obtain ⟨⟨hmin, hmax, hbase, hmod⟩, htmod⟩ := (Geometry.ok_iff g).1 h
  refine ⟨hmin, hmax, ?_, ?_⟩
  · rw [BitVec.toNat_ofNat, Nat.mod_eq_of_lt hbase]
    exact Nat.dvd_of_mod_eq_zero hmod
  · rw [BitVec.toNat_ofNat, Nat.mod_eq_of_lt ht]
    exact Nat.dvd_of_mod_eq_zero htmod

theorem argGeometry_aligned {a : Args} (h : (argGeometry a).ok = true) :
    areaAligned (BitVec.ofNat 48 (argGeometry a).base) (argGeometry a).sizeExp
      (BitVec.ofNat 64 (argGeometry a).targetBase) := Geometry.aligned_of_ok h (argPair_lt a 4 5)

/-- The window a management command writes is fresh when its spec passed the range checks (R14). -/
theorem specWindow_fresh {a : Args} {d : DomId} {rank : Nat} {st : WindowState} {b : Option Nat}
    (hst : st = .live ∨ st = .suspended) (hp : (argPerms a).legal = true) (hb : budgetOk b = true) :
    (specWindow a d rank st b).Fresh := ⟨hst, rfl, hp, newBudget_bounds hb rfl rfl⟩

/-- What the checks of INSTALL leave when they pass, as far as the window's record is concerned (R14). -/
theorem installCheck_eq_none {a : Args} {s : State} (h : installCheck a s = none) :
    (argPerms a).legal = true ∧ budgetOk (argBudget a 6 7) = true ∧ (argGeometry a).ok = true := by
  unfold installCheck at h
  dsimp only at h
  split_ifs at h with hargs _ hgeom
  simp only [not_or, Bool.not_eq_false] at hargs hgeom
  obtain ⟨-, -, -, hperms, hbudget, -⟩ := hargs
  exact ⟨hperms, hbudget, hgeom⟩

theorem replaceCheck_eq_none {a : Args} {s : State} (h : replaceCheck a s = none) :
    (argPerms a).legal = true ∧ budgetOk (argBudget a 6 7) = true ∧ (argGeometry a).ok = true := by
  unfold replaceCheck at h
  split at h
  · cases h
  · next hargs =>
    have hnext := (handleCheck_eq_none h).2
    split_ifs at hnext with _ _ hgeom
    simp only [not_or, Bool.not_eq_false] at hargs hgeom
    obtain ⟨-, hperms, hbudget⟩ := hargs
    exact ⟨hperms, hbudget, hgeom⟩

/-- The state an accepted INSTALL leaves (R15). -/
theorem installEffect_state {a : Args} {s : State} {i : SlotId} (hi : s.lowestFree = some i) :
    (installEffect a s).state =
      (s.fillSlot i (specWindow a (Fin.ofNat 16 (argField a 0 0 8)) (argField a 0 8 8)
        (if argField a 0 16 2 = 0 then .live else .suspended) (argBudget a 6 7))).chainInsert
        (Fin.ofNat 16 (argField a 0 0 8)) i (argField a 0 8 8) := by
  simp only [installEffect, hi]

theorem installAct_moves (a : Args) (s : State) : TableMoves s (installAct a s).state := by
  refine checked_moves fun hc => ?_
  obtain ⟨hp, hb, hg⟩ := installCheck_eq_none hc
  cases hi : s.lowestFree with
  | none => simpa only [installEffect, hi] using .refl
  | some i =>
    have hfree := ((s.lowestFree_eq_some_iff i).1 hi).1
    rw [installEffect_state hi]
    refine .trans ?_ (State.chainInsert_moves ..)
    exact .single (.fills hfree (specWindow_fresh (by split <;> simp) hp hb) fun _ => argGeometry_aligned hg)

/-- The state an accepted REPLACE leaves (R17). -/
theorem replaceEffect_state {a : Args} {s : State} {i : SlotId} (hi : s.lowestFree = some i) :
    (replaceEffect a s).state =
      ((s.fillSlot i (specWindow a (s.window (slotOf (argHandle a 0))).domain (s.window (slotOf (argHandle a 0))).rank
        .live (argBudget a 6 7))).modDomain (s.window (slotOf (argHandle a 0))).domain fun x =>
          { x with chain := x.chain.map fun j => if j = slotOf (argHandle a 0) then i else j }).removeWindow
        (s.window (slotOf (argHandle a 0))).domain (slotOf (argHandle a 0)) := by
  simp only [replaceEffect, hi]

theorem replaceAct_moves (a : Args) (s : State) : TableMoves s (replaceAct a s).state := by
  refine checked_moves fun hc => ?_
  obtain ⟨hp, hb, hg⟩ := replaceCheck_eq_none hc
  cases hi : s.lowestFree with
  | none => simpa only [replaceEffect, hi] using .refl
  | some i =>
    have hfree := ((s.lowestFree_eq_some_iff i).1 hi).1
    rw [replaceEffect_state hi]
    refine .tail (.trans ?_ (TableMoves.modDomain (.of_eq rfl rfl))) (.removes _ _)
    exact .single (.fills hfree (specWindow_fresh (.inl rfl) hp hb) fun _ => argGeometry_aligned hg)

theorem retireAct_moves (a : Args) (s : State) : TableMoves s (retireAct a s).state :=
  checked_moves fun _ => .trans (.single (.removes _ _)) (State.noticeIfSelf_moves _ _)

/-- A state of the record that is not DRAINING is written to a window in use (R21, R22). -/
theorem Window.editedTo_state {w : Window} {st : WindowState} (hw : w.state ≠ .free) (hf : st ≠ .free)
    (hd : st ≠ .draining) : w.EditedTo { w with state := st } :=
  ⟨rfl, rfl, rfl, rfl, rfl, hw, hf, fun h => absurd h hd, id, id⟩

theorem suspendAct_moves (a : Args) (s : State) : TableMoves s (suspendAct a s).state := by
  refine checked_moves fun hc => ?_
  have hedit := Window.editedTo_state (handleCheck_eq_none hc).1 (st := .suspended) (by simp) (by simp)
  exact .trans (.single (.edits hedit)) (State.noticeIfSelf_moves _ _)

theorem resumeAct_moves (a : Args) (s : State) : TableMoves s (resumeAct a s).state := by
  refine checked_moves fun hc => ?_
  have hedit := Window.editedTo_state (handleCheck_eq_none hc).1 (st := .live) (by simp) (by simp)
  exact .trans (.single (.edits hedit)) (State.noticeIfSelf_moves _ _)

theorem setBudgetAct_moves (a : Args) (s : State) : TableMoves s (setBudgetAct a s).state := by
  refine checked_moves fun hc => ?_
  unfold setBudgetCheck at hc
  split at hc
  · cases hc
  · next hb =>
    have hfree := (handleCheck_eq_none hc).1
    exact .single (.edits ⟨rfl, rfl, rfl, rfl, rfl, hfree, hfree, id, id,
      fun _ => newBudget_bounds (by simpa using hb) rfl rfl⟩)

theorem readWindowAct_moves (a : Args) (s : State) : TableMoves s (readWindowAct a s).state :=
  checked_moves fun _ => .refl

end Sys2Proof.Machine
end

section
/-! SUPPORT. The moves at the tables that the commands on domains, bindings, targets and links make, and the control
requests. -/

namespace Sys2Proof.Machine

/-! ### Commands on domains and bindings -/

theorem policiesOk_legal {a : Args} (h : policiesOk a = true) : (argCeiling a).legal = true := by
  simp only [policiesOk, Bool.and_eq_true] at h
  exact h.2

/-- The policies a command writes follow the rules when they passed the range checks (R39, R40). -/
theorem Domain.follows_withPolicies {a : Args} {x y : Domain} (h : policiesOk a = true)
    (hc : y.selfCeiling = argCeiling a) (hf : y.fence = x.fence) : x.Follows y :=
  ⟨fun _ => by rw [hc, policiesOk_legal h], fun f hy => .inl (by rw [← hf, hy])⟩

theorem domainOpenAct_moves (a : Args) (s : State) : TableMoves s (domainOpenAct a s).state := by
  refine checked_moves fun hc => ?_
  unfold domainOpenCheck at hc
  split at hc
  · cases hc
  · next hp =>
    unfold domainOpenEffect
    dsimp only
    refine TableMoves.modDomain ?_
    exact Domain.follows_withPolicies (by simpa using hp) rfl rfl

theorem domainSetAct_moves (a : Args) (s : State) : TableMoves s (domainSetAct a s).state := by
  refine checked_moves fun hc => ?_
  unfold domainSetCheck at hc
  split at hc
  · cases hc
  · next hp =>
    unfold domainSetEffect
    dsimp only
    refine TableMoves.modDomain ?_
    exact Domain.follows_withPolicies (by simpa using hp) rfl rfl

theorem setFenceAct_moves (a : Args) (s : State) : TableMoves s (setFenceAct a s).state := by
  refine checked_moves fun hc => ?_
  unfold setFenceEffect
  dsimp only
  refine TableMoves.modDomain ?_
  refine ⟨id, fun f hf => ?_⟩
  cases hp : argFencePresent a with
  | false => simp [hp] at hf
  | true =>
    obtain rfl : argFence a = f := by simpa [hp] using hf
    have hg : (argGeometry a).ok = true := by
      unfold setFenceCheck at hc
      split_ifs at hc with _ _ hgeom
      simpa [hp] using hgeom
    exact .inr (argGeometry_aligned hg)

/-- A change of a domain that keeps its ceiling and its fence, with its notice (R38). -/
theorem domainChange_moves {f : Domain → Domain} (hc : ∀ x, (f x).selfCeiling = x.selfCeiling)
    (hf : ∀ x, (f x).fence = x.fence) (a : Args) (s : State) : TableMoves s (domainChange f a s).state :=
  (TableMoves.modDomain (.of_eq (hc _) (hf _))).then_tables rfl rfl rfl

theorem State.removeAll_moves (d : DomId) (s : State) : TableMoves s (s.removeAll d) :=
  .trans (TableMoves.foldl (fun _ i => .single (.removes d i)) _ s) (TableMoves.modDomain (.of_eq rfl rfl))

theorem purgeAct_moves (a : Args) (s : State) : TableMoves s (purgeAct a s).state := by
  refine checked_moves fun _ => ?_
  have hend : TableMoves s ((s.removeAll (argDom a)).unbindAll (argDom a)) :=
    (s.removeAll_moves (argDom a)).then_tables rfl rfl rfl
  unfold purgeEffect
  dsimp only
  split
  · exact hend.trans (TableMoves.setDomain (.unused _))
  · refine hend.trans ?_
    dsimp only
    exact TableMoves.modDomain (.of_eq rfl rfl)

theorem bindAct_moves (a : Args) (s : State) : TableMoves s (bindAct a s).state := by
  refine checked_moves fun _ => ?_
  unfold bindEffect
  split <;> exact TableMoves.of_tables rfl rfl rfl

theorem unbindAct_moves (a : Args) (s : State) : TableMoves s (unbindAct a s).state := by
  refine checked_moves fun _ => ?_
  unfold unbindEffect
  split <;> exact TableMoves.of_tables rfl rfl rfl

theorem streamSetAct_moves (a : Args) (s : State) : TableMoves s (streamSetAct a s).state := by
  refine checked_moves fun _ => ?_
  unfold streamSetEffect
  split <;> exact TableMoves.of_tables rfl rfl rfl

/-! ### Commands on targets, links and the tables' readers -/

theorem targetSetAct_moves (a : Args) (s : State) : TableMoves s (targetSetAct a s).state := by
  refine checked_moves fun _ => ?_
  unfold targetSetEffect
  dsimp only
  split
  · exact .refl
  · exact .refl
  · exact (s.endAll_moves _).then_tables rfl rfl rfl
  · exact (s.endAll_moves _).then_tables rfl rfl rfl

theorem State.linkEnable_moves (l : LinkId) (s : State) : TableMoves s (s.linkEnable l) := by
  unfold State.linkEnable
  split
  · exact s.enterDown_moves l
  · exact .refl

theorem State.linkDisable_moves (l : LinkId) (s : State) : TableMoves s (s.linkDisable l) := by
  unfold State.linkDisable
  split
  · exact .refl
  · exact (s.leaveUp_moves l).then_tables (by simp) (by simp) (by simp)
  all_goals exact TableMoves.of_tables rfl rfl rfl

theorem State.linkResetAction_moves (l : LinkId) (s : State) : TableMoves s (s.linkResetAction l) := by
  unfold State.linkResetAction
  split
  · exact s.partReset_moves l
  · exact .refl

theorem linkSetAct_moves (a : Args) (s : State) : TableMoves s (linkSetAct a s).state := by
  refine checked_moves fun _ => ?_
  unfold linkSetEffect
  dsimp only
  split
  · exact s.linkEnable_moves _
  · split
    · exact s.linkDisable_moves _
    · exact s.linkResetAction_moves _

theorem probeAct_moves (a : Args) (s : State) : TableMoves s (probeAct a s).state := by
  refine checked_moves fun _ => ?_
  unfold probeEffect
  split <;> exact .refl

/-! ### Control requests -/

/-- An area inside an aligned fence takes an aligned target base from it (R36, R147): both areas are powers of two, the
inner one the smaller, so its size divides every term of the sum. -/
theorem Fence.derived_aligned {f : Fence} {g : Geometry} (hf : areaAligned f.base f.sizeExp f.targetBase)
    (hg : g.areaOk = true) (hin : f.contains g.base g.sizeExp = true) :
    areaAligned (BitVec.ofNat 48 g.base) g.sizeExp
      (f.targetBase + (BitVec.ofNat 48 g.base - f.base).setWidth 64) := by
  obtain ⟨hmin, hmax, hbase, hmod⟩ := (Geometry.areaOk_iff g).1 hg
  obtain ⟨-, -, hfbase, hftarget⟩ := hf
  simp only [Fence.contains, Bool.and_eq_true, decide_eq_true_eq] at hin
  obtain ⟨hlo, hhi⟩ := hin
  have hle : g.sizeExp ≤ f.sizeExp := by
    refine (Nat.pow_le_pow_iff_right (a := 2) (by omega)).1 ?_
    omega
  have hdvd : 2 ^ g.sizeExp ∣ 2 ^ f.sizeExp := Nat.pow_dvd_pow 2 hle
  have hgbase : 2 ^ g.sizeExp ∣ g.base := Nat.dvd_of_mod_eq_zero hmod
  have hnat : (BitVec.ofNat 48 g.base).toNat = g.base := by rw [BitVec.toNat_ofNat, Nat.mod_eq_of_lt hbase]
  have hsub : (BitVec.ofNat 48 g.base - f.base).toNat = g.base - f.base.toNat := by
    rw [BitVec.toNat_sub_of_le (by rw [BitVec.le_def, hnat]; exact hlo), hnat]
  refine ⟨hmin, hmax, hnat.symm ▸ hgbase, ?_⟩
  have hsmall : g.base - f.base.toNat < 2 ^ 64 := by omega
  rw [BitVec.toNat_add, BitVec.toNat_setWidth, hsub, Nat.mod_eq_of_lt hsmall]
  refine (Nat.dvd_mod_iff (Nat.pow_dvd_pow 2 (by omega))).2 (Nat.dvd_add (hdvd.trans hftarget) ?_)
  exact Nat.dvd_sub hgbase (hdvd.trans hfbase)

theorem State.selfChanged_moves (q : CtlRequest) (d : DomId) (s : State) : TableMoves s (s.selfChanged q d) :=
  .of_tables rfl rfl rfl

/-- What the checks of OPEN leave when they pass, as far as the new record is concerned (R146). -/
theorem openCheck_eq_ok {q : CtlRequest} {s : State} {d : DomId} (h : openCheck q s = .ok d) :
    q.openPerms.legal = true ∧ q.openGeometry.areaOk = true ∧
      ∀ f, (s.domain d).fence = some f → f.contains q.openGeometry.base q.openGeometry.sizeExp = true := by
  unfold openCheck at h
  split at h
  · cases h
  · split at h
    · cases h
    · next hperms =>
      split at h
      · cases h
      · split at h
        · cases h
        · next hgeom =>
          split at h
          · cases h
          · next f hf =>
            split_ifs at h with hin
            cases h
            simp only [Bool.not_eq_false] at hperms hgeom hin
            exact ⟨hperms, hgeom, fun f' hf' => Option.some.inj (hf.symm.trans hf') ▸ hin⟩

theorem openEffect_moves {q : CtlRequest} {d : DomId} {s : State} (hp : q.openPerms.legal = true)
    (hg : q.openGeometry.areaOk = true)
    (hin : ∀ f, (s.domain d).fence = some f → f.contains q.openGeometry.base q.openGeometry.sizeExp = true) :
    TableMoves s (openEffect q d s).state := by
  unfold openEffect
  split
  · next i f hi hf =>
    have hfree := ((s.lowestFree_eq_some_iff i).1 hi).1
    have hfresh : (q.selfWindow d f (s.selfRank d)).Fresh := ⟨.inl rfl, rfl, hp, rfl⟩
    refine .trans (.trans (.trans ?_ (State.chainInsert_moves ..)) (TableMoves.modDomain (.of_eq rfl rfl)))
      (State.selfChanged_moves q d _)
    exact .single (.fills hfree hfresh fun ha => Fence.derived_aligned (ha.2 d f hf) hg (hin f hf))
  · exact .refl

theorem openAct_moves (q : CtlRequest) (s : State) : TableMoves s (openAct q s).state := by
  unfold openAct
  split
  · exact .refl
  · next d hd =>
    obtain ⟨hp, hg, hin⟩ := openCheck_eq_ok hd
    exact openEffect_moves hp hg hin

theorem closeAct_moves (q : CtlRequest) (s : State) : TableMoves s (closeAct q s).state := by
  unfold closeAct
  split
  · exact .refl
  · next d i _ => exact .trans (.single (.removes d i)) (State.selfChanged_moves q d _)

/-- CLOSE and NARROW name a window that stands in the slot (R3, R148, R149). -/
theorem ownWindowCheck_eq_ok {q : CtlRequest} {s : State} {d : DomId} {i : SlotId}
    (h : ownWindowCheck q s = .ok (d, i)) : (s.window i).state ≠ .free := by
  unfold ownWindowCheck at h
  split_ifs at h
  split at h
  · cases h
  · cases h
  · next j hj =>
    split at h
    · cases h
    · split_ifs at h
      cases h
      exact (State.classify_eq_current hj).2

theorem narrowAct_moves (q : CtlRequest) (s : State) : TableMoves s (narrowAct q s).state := by
  unfold narrowAct
  split
  · exact .refl
  · next d i hd =>
    have hfree := ownWindowCheck_eq_ok hd
    refine .trans ?_ (State.selfChanged_moves q d _)
    exact .single (.edits ⟨rfl, rfl, rfl, rfl, rfl, hfree, hfree, id, fun _ => Perms.narrowTo_legal _ _, id⟩)

theorem statusAct_moves (q : CtlRequest) (s : State) : TableMoves s (statusAct q s).state := by
  unfold statusAct
  split <;> exact .refl

end Sys2Proof.Machine
end

section
/-! SUPPORT. The moves at the tables that an examination, the fabric side, the links, the resets and the register writes
make; and so those of every event and every step. -/

namespace Sys2Proof.Machine

/-! ### An examination -/

/-- The checks of the deciding window decide for that window. -/
theorem State.windowRuling_decided (s : State) (d : DomId) (i : SlotId) (q : Request) :
    (s.windowRuling d i q).decided = some i := by
  unfold State.windowRuling
  dsimp only
  split_ifs <;> rfl

/-- A resolution that a window decides is what the checks of that window give (R60). -/
theorem State.ruling_of_decided {s : State} {q : Request} {i : SlotId} (h : (s.ruling q).decided = some i) :
    ∃ d, s.ruling q = s.windowRuling d i q := by
  unfold State.ruling at h ⊢
  dsimp only at h ⊢
  split_ifs at h ⊢
  · cases h
  · split at h
    · cases h
    · next d _ =>
      split_ifs at h ⊢
      · cases h
      · split at h
        · cases h
        · next j _ =>
          rw [State.windowRuling_decided] at h
          cases h
          exact ⟨d, rfl⟩

/-- Past the first check of the deciding window that window is LIVE (R61). -/
theorem State.windowRuling_live {s : State} {d : DomId} {i : SlotId} {q : Request}
    (h : s.windowRuling d i q ≠ .suspended d i) : (s.window i).state = .live := by
  by_contra hlive
  exact h (if_pos hlive)

/-- Only a window with a budget stops a request for its budget (R65). -/
theorem State.windowRuling_budget {s : State} {d e : DomId} {i j : SlotId} {q : Request}
    (h : s.windowRuling d i q = .budget e j) : (s.window i).budget ≠ none := by
  unfold State.windowRuling at h
  dsimp only at h
  split_ifs at h with _ _ _ _ hfunds
  intro hnone
  simp [Window.affords, hnone] at hfunds

/-- A resolution that the budget stops found the window LIVE, with a budget (R61, R65). -/
theorem State.ruling_budget {s : State} {q : Request} {d : DomId} {i : SlotId} (h : s.ruling q = .budget d i) :
    (s.window i).state = .live ∧ (s.window i).budget ≠ none := by
  obtain ⟨e, he⟩ := State.ruling_of_decided (s := s) (q := q) (i := i) (by rw [h]; rfl)
  have hwin : s.windowRuling e i q = .budget d i := he.symm.trans h
  exact ⟨State.windowRuling_live (d := e) (q := q) (by simp [hwin]), State.windowRuling_budget hwin⟩

/-- A resolution that passes all checks found the window LIVE (R61, R66). -/
theorem State.ruling_admits {s : State} {q : Request} {d : DomId} {i : SlotId} (h : s.ruling q = .admits d i) :
    (s.window i).state = .live := by
  obtain ⟨e, he⟩ := State.ruling_of_decided (s := s) (q := q) (i := i) (by rw [h]; rfl)
  exact State.windowRuling_live (d := e) (q := q) (by simp [he.symm.trans h])

theorem State.raiseDom_moves (d : DomId) (e : DomEvent) (s : State) : TableMoves s (s.raiseDom d e) :=
  .of_tables rfl rfl rfl

theorem State.raiseDev_moves (e : DevEvent) (s : State) : TableMoves s (s.raiseDev e) := .of_tables rfl rfl rfl

theorem State.pendNotice_moves (d : DomId) (skip : Option LinkId) (s : State) : TableMoves s (s.pendNotice d skip) :=
  .of_tables rfl rfl rfl

theorem State.countFault_moves (d : DomId) (k : FaultKind) (q : Request) (s : State) :
    TableMoves s (s.countFault d k q) := by
  unfold State.countFault
  dsimp only
  split
  · refine .trans (.trans ?_ (State.raiseDom_moves ..)) (State.pendNotice_moves ..)
    exact TableMoves.setDomain (.of_eq rfl rfl)
  · exact TableMoves.setDomain (.of_eq rfl rfl)

/-- The alert of a window that has a budget is set in place (R12). -/
theorem State.setAlert_moves {i : SlotId} {s : State} (hi : (s.window i).state ≠ .free)
    (hb : (s.window i).budget ≠ none) : TableMoves s (s.setAlert i) := by
  unfold State.setAlert
  dsimp only
  split
  · exact .refl
  · refine .trans ?_ (State.raiseDom_moves ..)
    refine .single (.edits ⟨rfl, rfl, rfl, rfl, rfl, hi, hi, id, id, fun hbound => ?_⟩)
    unfold budgetBounds at hbound ⊢
    split
    · next hn => exact absurd hn hb
    · next b hsome =>
      simp only [show (s.window i).budget = some b from hsome] at hbound
      obtain ⟨hpos, hmax, hle, -⟩ := hbound
      exact ⟨hpos, hmax, hle, fun _ => rfl⟩

/-- The changes of a resolution that is no admission are moves of the tables (outcome table of section 3.6). -/
theorem State.resolutionChanges_moves {q : Request} {r : Ruling} {s : State} (hn : ∀ d i, r ≠ .admits d i)
    (hb : ∀ d i, r = .budget d i → (s.window i).state = .live ∧ (s.window i).budget ≠ none) :
    TableMoves s (s.resolutionChanges q r) := by
  have hplain : TableMoves s (s.plainChanges q r) := by
    unfold State.plainChanges
    split
    case h_2 => exact TableMoves.of_tables (by simp) (by simp) (by simp)
    case h_4 | h_8 | h_9 => exact s.countFault_moves ..
    case h_11 d i => exact State.setAlert_moves (by simp [(hb d i rfl).1]) (hb d i rfl).2
    case h_12 d i => exact absurd rfl (hn d i)
    all_goals exact .refl
  unfold State.resolutionChanges
  split
  · exact hplain
  · exact hplain
  · rw [State.specChanges_of_not_admitted hn]

/-- The changes of a resolution that admits are the charge, whatever the request's kind (R66). -/
theorem State.resolutionChanges_admits (q : Request) (d : DomId) (i : SlotId) (s : State) :
    s.resolutionChanges q (.admits d i) = s.charge i q.length := by
  unfold State.resolutionChanges
  cases q.kind <;> rfl

theorem Ruling.outcome_admits (k : ReqKind) (d : DomId) (i : SlotId) : (Ruling.admits d i).outcome k = .admitted := by
  cases k <;> rfl

/-- Only a resolution that admits has the outcome ADMITTED (the outcome table of section 3.6). -/
theorem Ruling.outcome_eq_admitted {k : ReqKind} {r : Ruling} (h : r.outcome k = .admitted) : ∃ d i, r = .admits d i := by
  cases r with
  | admits d i => exact ⟨d, i, rfl⟩
  | unbound p => cases k <;> cases p <;> cases h
  | miss d p => cases k <;> cases p <;> cases h
  | noStream | halted | suspended | boundary | access | targetOffline | budget => cases k <;> cases h

theorem State.examine_moves {l : LinkId} {e : EntryNo} {q : Request} {rest : List Request} {s : State}
    (he : s.entry l e = .free) : TableMoves s (s.examine l e q rest) := by
  have hpop : TableMoves s (s.modPort l fun p => { p with ingress := rest }) := .of_tables rfl rfl rfl
  by_cases ha : ∃ d i, s.ruling q = .admits d i
  · obtain ⟨d, i, hr⟩ := ha
    refine hpop.tail ?_
    simp only [State.examine, hr, Ruling.outcome_admits, State.resolutionChanges_admits]
    exact .admits he (State.ruling_admits hr) rfl
  · have hchanges : TableMoves s ((s.modPort l fun p => { p with ingress := rest }).resolutionChanges q (s.ruling q)) :=
      hpop.trans (State.resolutionChanges_moves (fun d i h => ha ⟨d, i, h⟩) fun d i h => State.ruling_budget h)
    unfold State.examine
    dsimp only
    split
    · exact hchanges.then_tables rfl rfl rfl
    · exact hchanges.then_tables rfl rfl rfl
    · next hout => exact absurd (Ruling.outcome_eq_admitted hout) ha

theorem State.freeEntry_isFree {s : State} {l : LinkId} {e : EntryNo} (h : s.freeEntry l = some e) :
    s.entry l e = .free := by
  have hfree := List.find?_some h
  cases hx : s.entry l e with
  | free => rfl
  | waitTag r => simp [hx, Entry.isFree] at hfree
  | issued r g dl => simp [hx, Entry.isFree] at hfree

theorem execExamination_moves {l : LinkId} {s t : State} (h : execExamination l s = .next t) : TableMoves s t := by
  unfold execExamination at h
  split at h
  · next q rest e _ he =>
    split at h
    · cases h
      exact State.examine_moves (State.freeEntry_isFree he)
    · cases h
      exact .refl
  · cases h
    exact .refl

/-! ### The fabric side -/

/-- An entry that is granted a tag keeps its request (R93). -/
theorem State.heldBy_setEntry_of_request {s : State} {l : LinkId} {e : EntryNo} {x : Entry}
    (h : x.request? = (s.entry l e).request?) : (s.setEntry l e x).heldBy = s.heldBy := by
  funext le
  simp only [State.heldBy, State.entry_setEntry]
  split
  · next hle =>
    obtain ⟨rfl, rfl⟩ := hle
    rw [h]
  · rfl

theorem execGrant_moves {s t : State} (h : execGrant s = .next t) : TableMoves s t := by
  unfold execGrant at h
  split at h
  · split at h
    · cases h
      exact .refl
    · split at h
      · next r hr =>
        cases h
        exact .single (.domains rfl (fun _ => .refl _) (State.heldBy_setEntry_of_request (by rw [hr]; rfl)))
      · cases h
        exact .refl
      · cases h
        exact .refl
  · cases h
    exact .refl

theorem execCompletion_moves {tag : Nat} {st : CompletionStatus} {data : List Byte} {s t : State}
    (h : execCompletion tag st data s = .next t) : TableMoves s t := by
  unfold execCompletion at h
  split at h
  · split at h
    · cases h
      exact TableMoves.of_tables rfl rfl rfl
    · cases h
      exact TableMoves.of_tables rfl rfl rfl
    · cases h
      exact s.endWithReply_moves ..
  · cases h
    exact TableMoves.of_tables rfl rfl rfl

theorem execDeadlineExpiry_moves {l : LinkId} {e : EntryNo} {s t : State}
    (h : execDeadlineExpiry l e s = .next t) : TableMoves s t := by
  unfold execDeadlineExpiry at h
  split at h
  · next r g dl _ =>
    cases h
    have hreach : TableMoves s (s.reach dl) := .of_tables rfl rfl rfl
    exact (hreach.trans (State.endWithReply_moves ..)).trans (State.raiseDev_moves ..)
  · cases h
    exact .refl
  · cases h
    exact .refl

/-! ### The links -/

theorem State.dataArrives_moves (l : LinkId) (kind : ReqKind) (tag : PeerTag) (stream : StreamNo) (addr : InAddr)
    (len : Nat) (data : Option (List Byte)) (s : State) :
    TableMoves s (s.dataArrives l kind tag stream addr len data) := by
  unfold State.dataArrives
  split
  · split
    · exact TableMoves.of_tables rfl rfl rfl
    · exact s.protocolError_moves ..
    · exact s.protocolError_moves ..
  · exact .refl

theorem State.ctlArrives_moves (l : LinkId) (tag : CtlTag) (byte2 op : Byte) (body : List Byte) (s : State) :
    TableMoves s (s.ctlArrives l tag byte2 op body) := by
  unfold State.ctlArrives
  dsimp only
  split
  · exact s.protocolError_moves ..
  · split
    · exact s.protocolError_moves ..
    · split
      · exact TableMoves.of_tables rfl rfl rfl
      · split
        · exact TableMoves.of_tables rfl rfl rfl
        · split <;> exact TableMoves.of_tables rfl rfl rfl

theorem execCtl_moves {l : LinkId} {tag : CtlTag} {byte2 op : Byte} {body : List Byte} {s t : State}
    (h : execCtl l tag byte2 op body s = .next t) : TableMoves s t := by
  cases h
  split
  · exact s.ctlArrives_moves ..
  · exact .refl

theorem execNoticeAck_moves {l : LinkId} {s t : State} (h : execNoticeAck l s = .next t) : TableMoves s t := by
  cases h
  split
  · split
    · exact TableMoves.of_tables rfl rfl rfl
    · exact s.protocolError_moves ..
    · exact .refl
  · exact .refl

theorem execLinkReset_moves {l : LinkId} {s t : State} (h : execLinkReset l s = .next t) : TableMoves s t := by
  cases h
  split
  · exact (s.leaveUp_moves l).then_tables (by simp) (by simp) (by simp)
  · exact TableMoves.of_tables rfl rfl rfl
  all_goals exact .refl

theorem execUnknownKind_moves {l : LinkId} {s t : State} (h : execUnknownKind l s = .next t) : TableMoves s t := by
  cases h
  split
  · exact s.protocolError_moves ..
  · exact .refl

theorem execSignalLoss_moves {l : LinkId} {s t : State} (h : execSignalLoss l s = .next t) : TableMoves s t := by
  cases h
  have hsignal : TableMoves s (s.modPort l fun p => { p with signal := false }) := .of_tables rfl rfl rfl
  split
  · exact hsignal
  · exact hsignal
  · exact hsignal.trans (State.enterDown_moves l _)
  · exact (hsignal.trans (State.leaveUp_moves l _)).trans (State.enterDown_moves l _)
  · exact hsignal.trans (State.enterDown_moves l _)

/-- An event that ends in one of several states makes the moves of each of them. -/
theorem TableMoves.ite {p : Prop} [Decidable p] {s t u : State} (ht : TableMoves s t) (hu : TableMoves s u) :
    TableMoves s (if p then t else u) := by
  split
  · exact ht
  · exact hu

theorem execHelloTimerExpiry_moves {l : LinkId} {s t : State} (h : execHelloTimerExpiry l s = .next t) :
    TableMoves s t := by
  cases h
  split
  · exact TableMoves.of_tables rfl rfl rfl
  · exact .refl

theorem execHandshakeTimerExpiry_moves {l : LinkId} {s t : State} (h : execHandshakeTimerExpiry l s = .next t) :
    TableMoves s t := by
  cases h
  split
  · exact TableMoves.of_tables rfl rfl rfl
  · exact .refl

theorem execSendDataReply_moves {l : LinkId} {tag : PeerTag} {s t : State} (h : execSendDataReply l tag s = .next t) :
    TableMoves s t := by
  cases h
  split
  · split
    · exact .refl
    · exact TableMoves.of_tables rfl rfl rfl
  · exact .refl

theorem execSendCtlReply_moves {l : LinkId} {tag : CtlTag} {s t : State} (h : execSendCtlReply l tag s = .next t) :
    TableMoves s t := by
  cases h
  split
  · split
    · exact .refl
    · exact TableMoves.of_tables rfl rfl rfl
  · exact .refl

/-! ### Resets and register writes -/

theorem State.restartLink_moves (wasUp : LinkId → Bool) (l : LinkId) (s : State) :
    TableMoves s (s.restartLink wasUp l) := by
  unfold State.restartLink
  dsimp only
  refine .trans ?_ (State.enterDown_moves l _)
  split <;> exact TableMoves.of_tables rfl rfl rfl

theorem State.restartLinks_moves (wasUp : LinkId → Bool) (s : State) : TableMoves s (s.restartLinks wasUp) := by
  unfold State.restartLinks
  exact TableMoves.foldl (fun s l => s.restartLink_moves wasUp l) _ s

theorem State.window_powerOnTables (s : State) (i : SlotId) : s.powerOnTables.window i = Window.cleared 0 := by
  simp [State.window_eq, State.powerOnTables, State.reset]

theorem State.domain_powerOnTables (s : State) (d : DomId) : s.powerOnTables.domain d = Domain.unused := by
  simp [State.domain_eq, State.powerOnTables, State.reset]

theorem State.heldBy_powerOnTables (s : State) (le : LinkId × EntryNo) : s.powerOnTables.heldBy le = none := by
  simp [State.heldBy, State.entry_eq, State.powerOnTables, State.reset, Entry.request?]

theorem State.window_deviceResetTables (s : State) (i : SlotId) :
    s.deviceResetTables.window i = Window.cleared (s.window i).generation := by
  simp [State.window_eq, State.deviceResetTables]

theorem State.powerOnTables_moves (s : State) : TableMoves s s.powerOnTables :=
  .single (.restarts (fun i => ⟨0, s.window_powerOnTables i⟩) s.domain_powerOnTables s.heldBy_powerOnTables)

theorem State.deviceReset_moves (s : State) : TableMoves s s.deviceReset := by
  refine .trans ?_ (State.restartLinks_moves _ _)
  exact .single (.restarts (fun i => ⟨_, s.window_deviceResetTables i⟩) s.domain_powerOnTables s.heldBy_powerOnTables)

theorem State.writeCmdIssue_moves (value : Word) (s : State) : TableMoves s (s.writeCmdIssue value) := by
  unfold State.writeCmdIssue
  split <;> exact TableMoves.of_tables rfl rfl rfl

theorem State.writeRegister_moves (r : Register) (value : Word) (s : State) : TableMoves s (s.writeRegister r value) := by
  cases r with
  | deviceControl => exact TableMoves.ite s.deviceReset_moves .refl
  | cmdIssue => exact s.writeCmdIssue_moves value
  | cmdArg | unboundSet | eventLatch | eventEnable | summaryEnable => exact TableMoves.of_tables rfl rfl rfl
  | identification | cmdStatus | cmdResult | linkState | targetState0 | targetState1 | tagStatus | summary | unassigned =>
    exact .refl

/-! ## The moves of an event and of a step -/

theorem freezeAct_moves (a : Args) (s : State) : TableMoves s (freezeAct a s).state :=
  checked_moves fun _ => domainChange_moves (by intro; rfl) (by intro; rfl) a s

theorem thawAct_moves (a : Args) (s : State) : TableMoves s (thawAct a s).state :=
  checked_moves fun _ => domainChange_moves (by intro; rfl) (by intro; rfl) a s

theorem haltAct_moves (a : Args) (s : State) : TableMoves s (haltAct a s).state :=
  checked_moves fun _ => domainChange_moves (by intro; rfl) (by intro; rfl) a s

theorem releaseAct_moves (a : Args) (s : State) : TableMoves s (releaseAct a s).state :=
  checked_moves fun _ => domainChange_moves (by intro; rfl) (by intro; rfl) a s

theorem readDomainAct_moves (a : Args) (s : State) : TableMoves s (readDomainAct a s).state :=
  checked_moves fun _ => .refl

theorem readChainAct_moves (a : Args) (s : State) : TableMoves s (readChainAct a s).state :=
  checked_moves fun _ => .refl

theorem setTimeoutAct_moves (a : Args) (s : State) : TableMoves s (setTimeoutAct a s).state :=
  checked_moves fun _ => TableMoves.of_tables rfl rfl rfl

/-- Every event makes a sequence of moves at the tables. -/
theorem exec_moves {c : Instr} {s t : State} (h : exec c s = .next t) : TableMoves s t := by
  cases c with
  | install => exact takeCommand_moves (fun a => installAct_moves a s) h
  | replace => exact takeCommand_moves (fun a => replaceAct_moves a s) h
  | retire => exact takeCommand_moves (fun a => retireAct_moves a s) h
  | suspend => exact takeCommand_moves (fun a => suspendAct_moves a s) h
  | resume => exact takeCommand_moves (fun a => resumeAct_moves a s) h
  | setBudget => exact takeCommand_moves (fun a => setBudgetAct_moves a s) h
  | readWindow => exact takeCommand_moves (fun a => readWindowAct_moves a s) h
  | domainOpen => exact takeCommand_moves (fun a => domainOpenAct_moves a s) h
  | domainSet => exact takeCommand_moves (fun a => domainSetAct_moves a s) h
  | setFence => exact takeCommand_moves (fun a => setFenceAct_moves a s) h
  | freeze => exact takeCommand_moves (fun a => freezeAct_moves a s) h
  | thaw => exact takeCommand_moves (fun a => thawAct_moves a s) h
  | halt => exact takeCommand_moves (fun a => haltAct_moves a s) h
  | release => exact takeCommand_moves (fun a => releaseAct_moves a s) h
  | purge => exact takeCommand_moves (fun a => purgeAct_moves a s) h
  | readDomain => exact takeCommand_moves (fun a => readDomainAct_moves a s) h
  | readChain => exact takeCommand_moves (fun a => readChainAct_moves a s) h
  | setTimeout => exact takeCommand_moves (fun a => setTimeoutAct_moves a s) h
  | bind => exact takeCommand_moves (fun a => bindAct_moves a s) h
  | unbind => exact takeCommand_moves (fun a => unbindAct_moves a s) h
  | streamSet => exact takeCommand_moves (fun a => streamSetAct_moves a s) h
  | targetSet => exact takeCommand_moves (fun a => targetSetAct_moves a s) h
  | linkSet => exact takeCommand_moves (fun a => linkSetAct_moves a s) h
  | probe => exact takeCommand_moves (fun a => probeAct_moves a s) h
  | badCommand => exact takeCommand_moves (fun _ => .refl) h
  | openWindow => exact takeControl_moves (fun q => openAct_moves q s) h
  | closeWindow => exact takeControl_moves (fun q => closeAct_moves q s) h
  | narrow => exact takeControl_moves (fun q => narrowAct_moves q s) h
  | status => exact takeControl_moves (fun q => statusAct_moves q s) h
  | ctl => exact execCtl_moves h
  | wr | rd | rds =>
    cases h
    exact s.dataArrives_moves ..
  | noticeAck => exact execNoticeAck_moves h
  | linkReset => exact execLinkReset_moves h
  | unknownKind => exact execUnknownKind_moves h
  | signalLoss => exact execSignalLoss_moves h
  | helloTimerExpiry => exact execHelloTimerExpiry_moves h
  | handshakeTimerExpiry => exact execHandshakeTimerExpiry_moves h
  | examination => exact execExamination_moves h
  | grant => exact execGrant_moves h
  | completion => exact execCompletion_moves h
  | deadlineExpiry => exact execDeadlineExpiry_moves h
  | hello | notice | signalDetection =>
    cases h
    exact TableMoves.ite (TableMoves.of_tables rfl rfl rfl) (TableMoves.of_tables rfl rfl rfl)
  | sendDataReply => exact execSendDataReply_moves h
  | sendCtlReply => exact execSendCtlReply_moves h
  | powerOnReset =>
    cases h
    exact s.powerOnTables_moves.trans (State.restartLinks_moves _ _)
  | deviceReset =>
    cases h
    exact s.deviceReset_moves
  | cmdIssue value =>
    cases h
    exact s.writeCmdIssue_moves value
  | registerWrite =>
    cases h
    exact s.writeRegister_moves ..
  | unboundSetRemove | eventClear | eventEnableWrite | summaryEnableWrite =>
    cases h
    exact TableMoves.of_tables rfl rfl rfl

/-- Every step makes a sequence of moves at the tables. -/
theorem step_moves {s t : State} (h : step s = .next t) : TableMoves s t := by
  unfold step at h
  split at h
  · next c rest _ =>
    have hpop : TableMoves s { s with pending := rest } := .of_tables rfl rfl rfl
    exact hpop.trans (exec_moves h)
  · unfold idleStep at h
    split at h
    · exact exec_moves h
    · cases h
      exact TableMoves.of_tables rfl rfl rfl

/-- A law that every move at the tables keeps is kept by every step. -/
theorem keptByStep_of_moves {law : State → Prop} (hmove : ∀ s t, TableMove s t → law s → law t) :
    keptByStep (fun _ => True) law := by
  intro s t _ hs hstep
  have hmoves := step_moves hstep
  clear hstep
  induction hmoves with
  | refl => exact hs
  | tail _ hlast ih => exact hmove _ _ hlast ih

end Sys2Proof.Machine
end

section
/-! SUPPORT. The laws of one window record and of the policies of the domains, kept by every move at the tables: legal
permissions, bounded budgets, cleared FREE slots, aligned windows and fences. -/

namespace Sys2Proof.Machine

/-! ## What a move does to one window -/

/-- The record of a window that an admission of `len` bytes has charged and referenced (R66, R12). -/
def Window.charged (w : Window) (len : Nat) : Window :=
  { w with
    budget := w.budget.map fun b => { b with remaining := b.remaining - len }
    alert := w.alert || w.budget.any fun b => decide (b.remaining - len = 0)
    refs := w.refs + 1 }

theorem State.window_setAlert (i j : SlotId) (s : State) : (s.setAlert i).window j =
    if i = j then { s.window i with alert := true } else s.window j := by
  unfold State.setAlert
  dsimp only
  split
  · next ha =>
    split
    · next hij => rw [← hij, ← ha]
    · rfl
  · rw [State.window_raiseDom, State.window_setWindow]

/-- What an admission leaves in each slot. -/
theorem State.window_charge (i j : SlotId) (len : Nat) (s : State) : (s.charge i len).window j =
    if i = j then (s.window i).charged len else s.window j := by
  unfold State.charge Window.charged
  dsimp only
  split
  · next hb =>
    rw [State.window_setWindow]
    simp [hb]
  · next b hb =>
    split
    · next hz =>
      rw [State.window_setAlert, State.window_setWindow, State.window_setWindow]
      split <;> simp [hb, hz]
    · next hz =>
      rw [State.window_setWindow]
      simp [hb, hz]

/-- The last window to drain ends the purge of a PURGING domain (R9, R49). -/
theorem State.noteFreed_last {s : State} {d : DomId}
    (h : (s.domain d).state = .purging ∧ (s.domain d).drainingCount - 1 = 0) :
    s.noteFreed d = ((s.raiseDom d .windowFreed).setDomain d Domain.unused).raiseDom d .domainPurged := by
  simp only [State.noteFreed, if_pos h]

theorem State.noteFreed_not_last {s : State} {d : DomId}
    (h : ¬((s.domain d).state = .purging ∧ (s.domain d).drainingCount - 1 = 0)) :
    s.noteFreed d = (s.raiseDom d .windowFreed).setDomain d
      { s.domain d with drainingCount := (s.domain d).drainingCount - 1 } := by
  simp only [State.noteFreed, if_neg h]

/-- A drop against a generation the slot no longer has changes nothing (log 9). -/
theorem State.dropRef_stale {s : State} {h : Handle} (hg : (s.window h.slot).generation ≠ h.generation) :
    s.dropRef h = s := by
  simp only [State.dropRef, if_pos hg]

/-- The last reference of a DRAINING window frees the slot (R9). -/
theorem State.dropRef_last {s : State} {h : Handle} (hg : (s.window h.slot).generation = h.generation)
    (hlast : (s.window h.slot).state = .draining ∧ (s.window h.slot).refs - 1 = 0) :
    s.dropRef h = (s.clearSlot h.slot).noteFreed (s.window h.slot).domain := by
  simp only [State.dropRef, if_neg (not_not.2 hg), if_pos hlast]

/-- Every other drop against the current generation lowers the count (R9). -/
theorem State.dropRef_not_last {s : State} {h : Handle} (hg : (s.window h.slot).generation = h.generation)
    (hlast : ¬((s.window h.slot).state = .draining ∧ (s.window h.slot).refs - 1 = 0)) :
    s.dropRef h = s.setWindow h.slot { s.window h.slot with refs := (s.window h.slot).refs - 1 } := by
  simp only [State.dropRef, if_neg (not_not.2 hg), if_neg hlast]

/-- The fields a reference drop reads and writes: two states that agree on them agree on them after the drop. -/
structure State.SameRecords (s t : State) : Prop where
  windows : t.windows = s.windows
  domains : t.domains = s.domains
  events : t.events = s.events

theorem State.SameRecords.window {s t : State} (h : s.SameRecords t) (i : SlotId) : t.window i = s.window i := by
  rw [State.window_eq, State.window_eq, h.windows]

theorem State.SameRecords.domain {s t : State} (h : s.SameRecords t) (d : DomId) : t.domain d = s.domain d := by
  rw [State.domain_eq, State.domain_eq, h.domains]

theorem State.SameRecords.noteFreed {s t : State} (h : s.SameRecords t) (d : DomId) :
    (s.noteFreed d).SameRecords (t.noteFreed d) := by
  by_cases hlast : (s.domain d).state = .purging ∧ (s.domain d).drainingCount - 1 = 0
  · rw [State.noteFreed_last hlast, State.noteFreed_last (by rwa [h.domain])]
    exact ⟨h.windows, by simp [h.domains], by simp [h.events]⟩
  · rw [State.noteFreed_not_last hlast, State.noteFreed_not_last (by rwa [h.domain]), h.domain]
    exact ⟨h.windows, by simp [h.domains], by simp [h.events]⟩

theorem State.SameRecords.dropRef {s t : State} (hst : s.SameRecords t) (h : Handle) :
    (s.dropRef h).SameRecords (t.dropRef h) := by
  by_cases hg : (s.window h.slot).generation = h.generation
  · by_cases hlast : (s.window h.slot).state = .draining ∧ (s.window h.slot).refs - 1 = 0
    · rw [State.dropRef_last hg hlast, State.dropRef_last (by rwa [hst.window]) (by rwa [hst.window]), hst.window]
      have hcleared : (s.clearSlot h.slot).SameRecords (t.clearSlot h.slot) :=
        ⟨by simp only [State.clearSlot, State.setWindow_windows, hst.windows, hst.window], hst.domains, hst.events⟩
      exact hcleared.noteFreed _
    · rw [State.dropRef_not_last hg hlast, State.dropRef_not_last (by rwa [hst.window]) (by rwa [hst.window]), hst.window]
      exact ⟨by simp [hst.windows], hst.domains, hst.events⟩
  · rwa [State.dropRef_stale hg, State.dropRef_stale (by rwa [hst.window])]

/-- The end of a busy entry leaves the records as the drop of its reference does (R98). -/
theorem State.endEntry_sameRecords {fate : TagFate} {l : LinkId} {e : EntryNo} {s : State} {r : EntryReq}
    (h : (s.entry l e).request? = some r) : (s.dropRef r.window).SameRecords (s.endEntry fate l e) := by
  cases hx : s.entry l e with
  | free => simp [hx, Entry.request?] at h
  | waitTag q =>
    obtain rfl : q = r := by simpa [hx, Entry.request?] using h
    rw [State.endEntry_waitTag hx]
    exact State.SameRecords.dropRef (by constructor <;> rfl) _
  | issued q g dl =>
    obtain rfl : q = r := by simpa [hx, Entry.request?] using h
    rw [State.endEntry_issued hx]
    exact State.SameRecords.dropRef (by constructor <;> rfl) _

/-- An entry is FREE, or carries a request (R86). -/
theorem Entry.free_or_request (x : Entry) : x = .free ∨ ∃ r, x.request? = some r := by
  cases x with
  | free => exact .inl rfl
  | waitTag r => exact .inr ⟨r, rfl⟩
  | issued r g dl => exact .inr ⟨r, rfl⟩

/-- What one move can make of a window record `w`, where `aligned` says that the tables were aligned before. -/
inductive WindowChange (aligned : Prop) (w : Window) : Window → Prop
  | same : WindowChange aligned w w
  | filled {v : Window} (g : BitVec 8) (hv : v.Fresh) (ha : aligned → areaAligned v.base v.sizeExp v.targetBase) :
      WindowChange aligned w { v with generation := g }
  | edited {v : Window} (hv : w.EditedTo v) : WindowChange aligned w v
  | cleared (g : BitVec 8) : WindowChange aligned w (Window.cleared g)
  | drained : WindowChange aligned w { w with state := .draining }
  | dropped : WindowChange aligned w { w with refs := w.refs - 1 }
  | charged (hw : w.state = .live) (len : Nat) : WindowChange aligned w (w.charged len)

theorem TableMove.windowChange {s t : State} (h : TableMove s t) (j : SlotId) :
    WindowChange (geometryAligned s) (s.window j) (t.window j) := by
  cases h with
  | domains hw _ _ =>
    rw [State.window_eq, State.window_eq, hw]
    exact .same
  | @fills i w _ hw ha =>
    rw [State.window_fillSlot]
    split
    · exact .filled _ hw ha
    · exact .same
  | @edits i w hw =>
    rw [State.window_setWindow]
    split
    · next hij => exact .edited (hij ▸ hw)
    · exact .same
  | removes d i =>
    rw [State.window_removeWindow]
    split
    · next hij =>
      subst hij
      split
      · exact .cleared _
      · exact .drained
    · exact .same
  | drops fate l e =>
    obtain hx | ⟨r, hr⟩ := (s.entry l e).free_or_request
    · rw [State.endEntry_free hx]
      exact .same
    · rw [(State.endEntry_sameRecords hr).window, State.window_dropRef]
      split
      · split
        · exact .cleared _
        · exact .dropped
      · exact .same
  | @admits l e i n r _ hi _ =>
    have hwin : ((s.charge i n).enterTracker l e r).window j = (s.charge i n).window j := rfl
    rw [hwin, State.window_charge]
    split
    · next hij => exact hij ▸ .charged hi n
    · exact .same
  | restarts hw _ _ =>
    obtain ⟨g, hg⟩ := hw j
    rw [hg]
    exact .cleared g

/-! ## What a move does to one domain -/

theorem State.noteFreed_follows (d : DomId) (s : State) (e : DomId) : (s.domain e).Follows ((s.noteFreed d).domain e) := by
  unfold State.noteFreed
  dsimp only
  split
  · rw [State.domain_raiseDom, State.domain_setDomain]
    split
    · exact .unused _
    · exact .refl _
  · rw [State.domain_setDomain]
    split
    · next hde => exact hde ▸ .of_eq rfl rfl
    · exact .refl _

theorem State.dropRef_follows (h : Handle) (s : State) (e : DomId) : (s.domain e).Follows ((s.dropRef h).domain e) := by
  unfold State.dropRef
  dsimp only
  split
  · exact .refl _
  · split
    · exact State.noteFreed_follows _ (s.clearSlot h.slot) e
    · exact .refl _

theorem TableMove.follows {s t : State} (h : TableMove s t) (d : DomId) : (s.domain d).Follows (t.domain d) := by
  cases h with
  | domains _ hd _ => exact hd d
  | fills | edits => exact .refl _
  | removes e i =>
    rw [State.domain_removeWindow]
    split
    · next hed => exact hed ▸ .of_eq rfl rfl
    · exact .refl _
  | drops fate l e =>
    obtain hx | ⟨r, hr⟩ := (s.entry l e).free_or_request
    · rw [State.endEntry_free hx]
      exact .refl _
    · rw [(State.endEntry_sameRecords hr).domain]
      exact State.dropRef_follows r.window s d
  | @admits l e i n r =>
    exact .of_eq (by simp [State.enterTracker, State.domain_eq]) (by simp [State.enterTracker, State.domain_eq])
  | restarts _ hd _ =>
    rw [hd d]
    exact .unused _

/-! ## The laws -/

theorem TableMove.keeps_freeSlotsCleared {s t : State} (h : TableMove s t) (hs : freeSlotsCleared s) :
    freeSlotsCleared t := by
  intro i hfree
  have hold := hs i
  generalize s.window i = w, t.window i = v, h.windowChange i = hc at hold hfree ⊢
  cases hc with
  | same => exact hold hfree
  | filled g hv _ => exact absurd hfree (by rcases hv.inUse with hv | hv <;> simp [hv])
  | edited hv => exact absurd hfree hv.stays
  | cleared g => rfl
  | drained => cases hfree
  | dropped =>
    rw [hold hfree]
    rfl
  | charged hw len => exact absurd hfree (by simp [Window.charged, hw])

/-- A charge never leaves more than was set, and an exhausted budget with its alert clear (R12). -/
theorem Window.charged_bounds {w : Window} (len : Nat) (h : budgetBounds w) : budgetBounds (w.charged len) := by
  unfold budgetBounds at h ⊢
  cases hb : w.budget with
  | none => simpa [Window.charged, hb] using h
  | some b =>
    simp only [hb] at h
    obtain ⟨hpos, hmax, hle, -⟩ := h
    simp only [Window.charged, hb, Option.map_some, Option.any_some]
    exact ⟨hpos, hmax, by omega, fun hz => by simp [hz]⟩

theorem TableMove.keeps_budgetsBounded {s t : State} (h : TableMove s t) (hs : budgetsBounded s) : budgetsBounded t := by
  intro i
  have hold := hs i
  generalize s.window i = w, t.window i = v, h.windowChange i = hc at hold ⊢
  cases hc with
  | same | drained | dropped => exact hold
  | filled g hv _ => exact hv.bounded
  | edited hv => exact hv.bounded hold
  | cleared g => rfl
  | charged _ len => exact Window.charged_bounds len hold

theorem TableMove.keeps_permissionsLegal {s t : State} (h : TableMove s t) (hs : permissionsLegal s) :
    permissionsLegal t := by
  refine ⟨fun i => ?_, fun d => (h.follows d).ceiling (hs.2 d)⟩
  have hold := hs.1 i
  generalize s.window i = w, t.window i = v, h.windowChange i = hc at hold ⊢
  cases hc with
  | same | drained | dropped | charged => exact hold
  | filled g hv _ => exact hv.legal
  | edited hv => exact hv.legal hold
  | cleared g => rfl

theorem areaAligned_cleared (g : BitVec 8) :
    areaAligned (Window.cleared g).base (Window.cleared g).sizeExp (Window.cleared g).targetBase :=
  ⟨le_rfl, by simp [Window.cleared], Nat.dvd_zero _, Nat.dvd_zero _⟩

theorem TableMove.keeps_geometryAligned {s t : State} (h : TableMove s t) (hs : geometryAligned s) :
    geometryAligned t := by
  refine ⟨fun i => ?_, fun d f hf => ?_⟩
  · have hold := hs.1 i
    generalize s.window i = w, t.window i = v, h.windowChange i = hc at hold ⊢
    cases hc with
    | same | drained | dropped | charged => exact hold
    | filled g _ ha => exact ha hs
    | edited hv => rwa [hv.base, hv.sizeExp, hv.targetBase]
    | cleared g => exact areaAligned_cleared g
  · rcases (h.follows d).fence f hf with hold | ha
    · exact hs.2 d f hold
    · exact ha

/-- Settles O53: each move at the tables keeps the three laws of a window record. -/
theorem windowRecordLawsKeptByStep : Obligations.WindowRecordLawsKeptByStep :=
  ⟨keptByStep_of_moves fun _ _ => TableMove.keeps_freeSlotsCleared,
    keptByStep_of_moves fun _ _ => TableMove.keeps_permissionsLegal,
    keptByStep_of_moves fun _ _ => TableMove.keeps_budgetsBounded⟩

/-- Settles O54: each move at the tables keeps windows and fences aligned. -/
theorem alignmentKeptByStep : Obligations.AlignmentKeptByStep :=
  keptByStep_of_moves fun _ _ => TableMove.keeps_geometryAligned

end Sys2Proof.Machine
end

section
/-! SUPPORT. The reference law (R8), kept by every move at the tables: who holds a slot, and what the moves do to the
counts. -/

namespace Sys2Proof.Machine

/-- How many tracker entries hold the handle `h`. -/
def State.holders (s : State) (h : Handle) : Nat := allEntries.countP fun le => decide (s.heldBy le = some h)

/-- The reference law in the words of `heldBy` (R8). -/
theorem referencesCounted_iff (s : State) : referencesCounted s ↔
    (∀ i, (s.window i).refs = s.holders (s.handleOf i)) ∧
    (∀ le h, s.heldBy le = some h → (s.window h.slot).generation = h.generation ∧ (s.window h.slot).state ≠ .free) ∧
    (∀ i, (s.window i).state = .draining → 0 < (s.window i).refs) := by
  have hheld : (∀ (l : LinkId) (e : EntryNo) (r : EntryReq), (s.entry l e).request? = some r →
      (s.window r.window.slot).generation = r.window.generation ∧ (s.window r.window.slot).state ≠ .free) ↔
      ∀ le h, s.heldBy le = some h →
        (s.window h.slot).generation = h.generation ∧ (s.window h.slot).state ≠ .free := by
    constructor
    · intro hall le h hle
      obtain ⟨r, hr, rfl⟩ := Option.map_eq_some_iff.1 hle
      exact hall le.1 le.2 r hr
    · intro hall l e r hr
      exact hall (l, e) r.window (by simp only [State.heldBy, hr, Option.map_some])
  unfold referencesCounted
  rw [hheld]
  rfl

theorem nodup_allEntries : allEntries.Nodup := by decide

theorem State.holders_eq_zero_iff (s : State) (h : Handle) : s.holders h = 0 ↔ ∀ le, s.heldBy le ≠ some h := by
  simp [State.holders, List.countP_eq_zero, mem_allEntries]

/-- One entry that begins to hold a handle raises its holders by one, when no other entry changes. -/
theorem State.holders_add_one {s t : State} {le : LinkId × EntryNo} {h : Handle} (ht : t.heldBy le = some h)
    (hs : s.heldBy le ≠ some h) (hother : ∀ le', le' ≠ le → t.heldBy le' = s.heldBy le') :
    t.holders h = s.holders h + 1 := by
  have hperm := List.perm_cons_erase (mem_allEntries le)
  have hrest : (allEntries.erase le).countP (fun x => decide (t.heldBy x = some h)) =
      (allEntries.erase le).countP fun x => decide (s.heldBy x = some h) := by
    refine List.countP_congr fun x hx => ?_
    rw [hother x ((List.Nodup.mem_erase_iff nodup_allEntries).1 hx).1]
  simp only [State.holders, hperm.countP_eq, List.countP_cons, hrest, ht, hs, decide_true, decide_false, if_true]
  simp

/-- A handle no entry begins or ceases to hold keeps its holders. -/
theorem State.holders_congr {s t : State} {h : Handle} (hiff : ∀ le, t.heldBy le = some h ↔ s.heldBy le = some h) :
    t.holders h = s.holders h :=
  List.countP_congr fun le _ => by simp [hiff le]

/-! ## Who holds a slot, under the law -/

/-- Under the law a handle is held only with the slot's current generation (R8). -/
theorem held_eq_handleOf {s : State} (hs : referencesCounted s) {le : LinkId × EntryNo} {h : Handle}
    (hle : s.heldBy le = some h) : h = s.handleOf h.slot := by
  obtain ⟨-, hcur, -⟩ := (referencesCounted_iff s).1 hs
  simp [State.handleOf, (hcur le h hle).1]

/-- Under the law nothing holds a FREE slot (R8). -/
theorem free_not_held {s : State} (hs : referencesCounted s) {i : SlotId}
    (hi : (s.window i).state = .free) (le : LinkId × EntryNo) (g : BitVec 8) : s.heldBy le ≠ some ⟨i, g⟩ := by
  obtain ⟨-, hcur, -⟩ := (referencesCounted_iff s).1 hs
  exact fun hle => (hcur le _ hle).2 hi

/-- Under the law nothing holds a slot without references (R8). -/
theorem unreferenced_not_held {s : State} (hs : referencesCounted s) {i : SlotId}
    (hi : (s.window i).refs = 0) (le : LinkId × EntryNo) (g : BitVec 8) : s.heldBy le ≠ some ⟨i, g⟩ := by
  intro hle
  have hh := held_eq_handleOf hs hle
  obtain ⟨hcount, -, -⟩ := (referencesCounted_iff s).1 hs
  exact (s.holders_eq_zero_iff _).1 ((hcount i).symm.trans hi) le (hle.trans (congrArg some hh))

/-! ## Changes of one window that no entry begins or ceases to hold -/

/-- A record that nothing holds may be overwritten by one without references that does not drain. -/
theorem referencesCounted_overwrite {s t : State} {i : SlotId} (hs : referencesCounted s)
    (hheld : ∀ le g, s.heldBy le ≠ some ⟨i, g⟩) (hh : t.heldBy = s.heldBy)
    (hother : ∀ j, i ≠ j → t.window j = s.window j) (hrefs : (t.window i).refs = 0)
    (hstate : (t.window i).state ≠ .draining) : referencesCounted t := by
  obtain ⟨hcount, hcur, hdrain⟩ := (referencesCounted_iff s).1 hs
  have hholders : ∀ h, t.holders h = s.holders h := fun h => State.holders_congr fun le => by rw [hh]
  refine (referencesCounted_iff t).2 ⟨fun j => ?_, fun le h hle => ?_, fun j hj => ?_⟩
  · by_cases hij : i = j
    · subst hij
      rw [hrefs, hholders, eq_comm, State.holders_eq_zero_iff]
      exact fun le => hheld le _
    · rw [hholders, State.handleOf, hother j hij]
      exact hcount j
  · rw [hh] at hle
    have hij : i ≠ h.slot := by
      rintro rfl
      exact hheld le h.generation hle
    rw [hother _ hij]
    exact hcur le h hle
  · have hij : i ≠ j := by
      rintro rfl
      exact hstate hj
    rw [hother j hij] at hj ⊢
    exact hdrain j hj

/-- A record may be changed in place when its generation and its references stay, it stays in use, and it drains only
with references. -/
theorem referencesCounted_rewrite {s t : State} {i : SlotId} (hs : referencesCounted s) (hh : t.heldBy = s.heldBy)
    (hother : ∀ j, i ≠ j → t.window j = s.window j) (hgen : (t.window i).generation = (s.window i).generation)
    (hrefs : (t.window i).refs = (s.window i).refs) (hfree : (t.window i).state ≠ .free)
    (hstate : (t.window i).state = .draining → 0 < (s.window i).refs) : referencesCounted t := by
  obtain ⟨hcount, hcur, hdrain⟩ := (referencesCounted_iff s).1 hs
  have hholders : ∀ h, t.holders h = s.holders h := fun h => State.holders_congr fun le => by rw [hh]
  refine (referencesCounted_iff t).2 ⟨fun j => ?_, fun le h hle => ?_, fun j hj => ?_⟩
  · by_cases hij : i = j
    · subst hij
      rw [hrefs, hholders, State.handleOf, hgen]
      exact hcount i
    · rw [hholders, State.handleOf, hother j hij]
      exact hcount j
  · rw [hh] at hle
    obtain ⟨hg, hf⟩ := hcur le h hle
    by_cases hij : i = h.slot
    · subst hij
      exact ⟨hgen.trans hg, hfree⟩
    · rw [hother _ hij]
      exact ⟨hg, hf⟩
  · by_cases hij : i = j
    · subst hij
      rw [hrefs]
      exact hstate hj
    · rw [hother j hij] at hj ⊢
      exact hdrain j hj

/-! ## The moves -/

theorem State.heldBy_setEntry (l : LinkId) (e : EntryNo) (x : Entry) (s : State) (le : LinkId × EntryNo) :
    (s.setEntry l e x).heldBy le = if le = (l, e) then x.request?.map (·.window) else s.heldBy le := by
  simp only [State.heldBy, State.entry_setEntry, Prod.ext_iff, eq_comm (a := l), eq_comm (a := e)]
  split <;> rfl

theorem State.heldBy_endEntry (fate : TagFate) (l : LinkId) (e : EntryNo) (s : State) (le : LinkId × EntryNo) :
    (s.endEntry fate l e).heldBy le = if le = (l, e) then none else s.heldBy le := by
  simp only [State.heldBy, State.entry_endEntry, Prod.ext_iff, eq_comm (a := l), eq_comm (a := e)]
  split <;> rfl

theorem State.removeWindow_keeps_references (d : DomId) (i : SlotId) {s : State} (hs : referencesCounted s) :
    referencesCounted (s.removeWindow d i) := by
  have hh : (s.removeWindow d i).heldBy = s.heldBy := heldBy_of_entries (by simp)
  have hother : ∀ j, i ≠ j → (s.removeWindow d i).window j = s.window j := fun j hij => by
    rw [State.window_removeWindow, if_neg hij]
  have hself := State.window_removeWindow d i i s
  rw [if_pos rfl] at hself
  by_cases hrefs : (s.window i).refs = 0
  · rw [if_pos hrefs] at hself
    exact referencesCounted_overwrite hs (unreferenced_not_held hs hrefs) hh hother (by rw [hself]; rfl)
      (by rw [hself]; simp [Window.cleared])
  · rw [if_neg hrefs] at hself
    exact referencesCounted_rewrite hs hh hother (by rw [hself]) (by rw [hself]) (by rw [hself]; simp)
      (fun _ => Nat.pos_of_ne_zero hrefs)

/-- One entry releases the handle it holds and the slot's count falls by one: the slot may become FREE with its last
reference, and drains on only with references left. -/
theorem referencesCounted_release {s t : State} {le : LinkId × EntryNo} {h : Handle} (hs : referencesCounted s)
    (hle : s.heldBy le = some h) (hheld : ∀ x, t.heldBy x = if x = le then none else s.heldBy x)
    (hother : ∀ j, h.slot ≠ j → t.window j = s.window j)
    (hgen : (t.window h.slot).generation = (s.window h.slot).generation)
    (hrefs : (t.window h.slot).refs = (s.window h.slot).refs - 1)
    (hfree : (t.window h.slot).state = .free → (t.window h.slot).refs = 0)
    (hdrains : (t.window h.slot).state = .draining → 0 < (t.window h.slot).refs) : referencesCounted t := by
  obtain ⟨hcount, hcur, hdrain⟩ := (referencesCounted_iff s).1 hs
  have hname : t.handleOf h.slot = h := by
    rw [State.handleOf, hgen, (hcur le h hle).1]
  have hholders : s.holders h = t.holders h + 1 :=
    State.holders_add_one hle (by simp [hheld]) fun x hne => by rw [hheld, if_neg hne]
  have hself : (t.window h.slot).refs = t.holders h := by
    rw [hrefs, hcount, ← held_eq_handleOf hs hle, hholders, Nat.add_sub_cancel]
  refine (referencesCounted_iff t).2 ⟨fun j => ?_, fun x k hx => ?_, fun j hj => ?_⟩
  · by_cases hj : h.slot = j
    · subst hj
      rw [hname, hself]
    · rw [State.handleOf, hother j hj, hcount j]
      refine (State.holders_congr fun x => ?_).symm
      rw [hheld]
      split
      · next heq =>
        subst heq
        simp only [reduceCtorEq, hle, Option.some.injEq, false_iff]
        exact fun hh => hj (congrArg Handle.slot hh)
      · rfl
  · have hold : s.heldBy x = some k := by
      rw [hheld] at hx
      split at hx
      · cases hx
      · exact hx
    obtain ⟨hg, hf⟩ := hcur x k hold
    by_cases hj : h.slot = k.slot
    · have hkh : k = h := by rw [held_eq_handleOf hs hold, held_eq_handleOf hs hle, hj]
      subst hkh
      refine ⟨hgen.trans hg, fun hzero => ?_⟩
      exact (State.holders_eq_zero_iff t k).1 (hself.symm.trans (hfree hzero)) x hx
    · rw [hother _ hj]
      exact ⟨hg, hf⟩
  · by_cases hslot : h.slot = j
    · subst hslot
      exact hdrains hj
    · rw [hother j hslot] at hj ⊢
      exact hdrain j hj

theorem State.endEntry_keeps_references (fate : TagFate) (l : LinkId) (e : EntryNo) {s : State}
    (hs : referencesCounted s) : referencesCounted (s.endEntry fate l e) := by
  obtain hx | ⟨r, hr⟩ := (s.entry l e).free_or_request
  · rwa [State.endEntry_free hx]
  have hle : s.heldBy (l, e) = some r.window := by simp only [State.heldBy, hr, Option.map_some]
  obtain ⟨-, hcur, -⟩ := (referencesCounted_iff s).1 hs
  obtain ⟨hgen, hfree⟩ := hcur _ _ hle
  have hwin := (State.endEntry_sameRecords (fate := fate) hr).window
  have hself : (s.endEntry fate l e).window r.window.slot =
      if (s.window r.window.slot).state = .draining ∧ (s.window r.window.slot).refs - 1 = 0 then
        Window.cleared (s.window r.window.slot).generation
      else { s.window r.window.slot with refs := (s.window r.window.slot).refs - 1 } := by
    rw [hwin, State.window_dropRef, if_pos ⟨rfl, hgen⟩]
  have hother : ∀ j, r.window.slot ≠ j → (s.endEntry fate l e).window j = s.window j := fun j hj => by
    rw [hwin, State.window_dropRef, if_neg fun h => hj h.1]
  refine referencesCounted_release hs hle (State.heldBy_endEntry fate l e s) hother ?_ ?_ ?_ ?_ <;> rw [hself] <;> split
  · rfl
  · rfl
  · next hlast => exact hlast.2.symm
  · rfl
  · exact fun _ => rfl
  · exact fun h => absurd h hfree
  · exact fun h => by cases h
  · next hlast => exact fun h => Nat.pos_of_ne_zero fun hz => hlast ⟨h, hz⟩

theorem State.admit_keeps_references {l : LinkId} {e : EntryNo} {i : SlotId} {n : Nat} {r : EntryReq} {s : State}
    (he : s.entry l e = .free) (hi : (s.window i).state = .live) (hr : r.window = s.handleOf i)
    (hs : referencesCounted s) : referencesCounted ((s.charge i n).enterTracker l e r) := by
  obtain ⟨hcount, hcur, hdrain⟩ := (referencesCounted_iff s).1 hs
  have hheld : ∀ le, ((s.charge i n).enterTracker l e r).heldBy le =
      if le = (l, e) then some (s.handleOf i) else s.heldBy le := by
    intro le
    have hframe : ((s.charge i n).enterTracker l e r).heldBy le = ((s.charge i n).setEntry l e (.waitTag r)).heldBy le := rfl
    rw [hframe, State.heldBy_setEntry, heldBy_of_entries (State.charge_entries i n s)]
    simp [Entry.request?, hr]
  have hwin : ∀ j, ((s.charge i n).enterTracker l e r).window j = if i = j then (s.window i).charged n else s.window j :=
    fun j => State.window_charge i j n s
  have hname : ∀ j, ((s.charge i n).enterTracker l e r).handleOf j = s.handleOf j := by
    intro j
    rw [State.handleOf, State.handleOf, hwin]
    split
    · next hij => simp [Window.charged, hij]
    · rfl
  have hbefore : s.heldBy (l, e) = none := by simp [State.heldBy, he, Entry.request?]
  refine (referencesCounted_iff _).2 ⟨fun j => ?_, fun le h hh => ?_, fun j hj => ?_⟩
  · rw [hname, hwin]
    by_cases hij : i = j
    · subst hij
      rw [if_pos rfl, State.holders_add_one (le := (l, e)) (s := s) (by rw [hheld, if_pos rfl]) (by simp [hbefore])
        (fun le' hne => by rw [hheld, if_neg hne]), ← hcount i]
      rfl
    · rw [if_neg hij, hcount j]
      refine (State.holders_congr fun le => ?_).symm
      rw [hheld]
      split
      · next heq =>
        subst heq
        simp only [hbefore, Option.some.injEq, reduceCtorEq, iff_false]
        exact fun h => hij (congrArg Handle.slot h)
      · rfl
  · have hold : (s.window h.slot).generation = h.generation ∧ (s.window h.slot).state ≠ .free := by
      rw [hheld] at hh
      split at hh
      · obtain rfl := Option.some.inj hh
        exact ⟨rfl, by simp [State.handleOf, hi]⟩
      · exact hcur le h hh
    rw [hwin]
    split
    · next hij => exact hij ▸ hold
    · exact hold
  · rw [hwin] at hj ⊢
    split
    · exact Nat.succ_pos _
    · next hij =>
      rw [if_neg hij] at hj
      exact hdrain j hj

theorem TableMove.keeps_referencesCounted {s t : State} (h : TableMove s t) (hs : referencesCounted s) :
    referencesCounted t := by
  cases h with
  | domains hw _ hh =>
    obtain ⟨hcount, hcur, hdrain⟩ := (referencesCounted_iff s).1 hs
    have hwin : ∀ i, t.window i = s.window i := fun i => by rw [State.window_eq, State.window_eq, hw]
    have hholders : ∀ h, t.holders h = s.holders h := fun h => State.holders_congr fun le => by rw [hh]
    refine (referencesCounted_iff t).2 ⟨fun i => ?_, fun le h hle => ?_, fun i hi => ?_⟩
    · rw [hholders, State.handleOf, hwin]
      exact hcount i
    · rw [hwin]
      exact hcur le h (hh ▸ hle)
    · rw [hwin] at hi ⊢
      exact hdrain i hi
  | @fills i w hfree hw _ =>
    have hself : (s.fillSlot i w).window i = { w with generation := (s.window i).generation + 1 } := by
      rw [State.window_fillSlot, if_pos rfl]
    refine referencesCounted_overwrite hs (free_not_held hs hfree) rfl
      (fun j hij => by rw [State.window_fillSlot, if_neg hij]) (by rw [hself]; exact hw.unreferenced) ?_
    rw [hself]
    rcases hw.inUse with hst | hst <;> simp [hst]
  | @edits i w hw =>
    have hself : (s.setWindow i w).window i = w := by rw [State.window_setWindow, if_pos rfl]
    obtain ⟨-, -, hdrain⟩ := (referencesCounted_iff s).1 hs
    exact referencesCounted_rewrite hs rfl (fun j hij => by rw [State.window_setWindow, if_neg hij])
      (by rw [hself, hw.generation]) (by rw [hself, hw.refs]) (by rw [hself]; exact hw.stays) fun h => hdrain i (hw.draining (hself ▸ h))
  | removes d i => exact State.removeWindow_keeps_references d i hs
  | drops fate l e => exact State.endEntry_keeps_references fate l e hs
  | admits he hi hr => exact State.admit_keeps_references he hi hr hs
  | restarts hw _ hh =>
    refine (referencesCounted_iff t).2 ⟨fun i => ?_, fun le h hle => ?_, fun i hi => ?_⟩
    · obtain ⟨g, hg⟩ := hw i
      rw [hg, eq_comm, (t.holders_eq_zero_iff _).2 fun le => by simp [hh le]]
      rfl
    · rw [hh le] at hle
      cases hle
    · obtain ⟨g, hg⟩ := hw i
      rw [hg] at hi
      cases hi

/-- Settles O52: each move at the tables keeps the reference law. -/
theorem referenceLawKeptByStep : Obligations.ReferenceLawKeptByStep :=
  keptByStep_of_moves fun _ _ => TableMove.keeps_referencesCounted

end Sys2Proof.Machine
end

section
/-! SUPPORT. The takings of commands in the words of the statements: what a taken command leaves, when the checks of the
model fail in the words of the rules, and what a presented handle answers. -/

namespace Sys2Proof.Machine

open Sys2Proof.Spec

/-! ## What a taken command leaves (R131) -/

theorem resultWords_eq_results (code : ResultCode) (items : List Word) : resultWords code items = results code items := by
  refine Vector.ext fun i hi => ?_
  cases i with
  | zero => simpa [results] using resultWords_zero code items
  | succ n => simpa [results] using resultWords_succ code items n hi

theorem finishCommand_eq_commandDone (c : Command) (r : Done) :
    finishCommand c.seq r = commandDone c r.code r.items r.state := by
  simp only [finishCommand, resultWords_eq_results]
  rfl

/-- A row that takes the command in the slot answers what carrying the command out gives. -/
theorem takeCommand_takes {k : Nat} {act : Args → State → Done} {c : Command} {s : State} (ht : takes k c s) :
    takeCommand (codeIs k) act s =
      .next (commandDone c (act c.args s).code (act c.args s).items (act c.args s).state) := by
  obtain ⟨hslot, hcode, hturn⟩ := ht
  rw [takeCommand_taken hslot ((codeIs_eq_true k c.code).2 hcode) hturn, finishCommand_eq_commandDone]

/-- A command whose check fails is refused and changes nothing (R134). -/
theorem takeCommand_refuses {k : Nat} {check : Args → State → Option ResultCode} {effect : Args → State → Done}
    {c : Command} {s : State} {code : ResultCode} (ht : takes k c s) (hc : check c.args s = some code) :
    takeCommand (codeIs k) (fun a s => Done.checked (check a s) (fun _ => effect a s) s) s =
      .next (commandDone c code [] s) := by
  rw [takeCommand_takes ht]
  simp only [hc, Done.checked_some, Done.refuse_state, Done.refuse_code, Done.refuse_items]

/-- A command that passes its checks has its effect (R134). -/
theorem takeCommand_effects {k : Nat} {check : Args → State → Option ResultCode} {effect : Args → State → Done}
    {c : Command} {s t : State} {code : ResultCode} {items : List Word} (ht : takes k c s)
    (hc : check c.args s = none) (he : effect c.args s = ⟨t, code, items⟩) :
    takeCommand (codeIs k) (fun a s => Done.checked (check a s) (fun _ => effect a s) s) s =
      .next (commandDone c code items t) := by
  rw [takeCommand_takes ht]
  simp only [hc, Done.checked_none, he]

/-! ## The checks in the words of the rules -/

theorem Perms.legal_eq_false_iff (p : Perms) : p.legal = false ↔ ¬permsFit p := by
  rw [← Bool.not_eq_true, Perms.legal_iff]

theorem budgetOk_eq_false_iff (b : Option Nat) : budgetOk b = false ↔ ¬budgetFits b := by
  rw [← Bool.not_eq_true, budgetOk_iff]

theorem argGeometry_ok_iff (a : Args) : (argGeometry a).ok = true ↔
    geometryFits (argField a 1 0 8) (argPair a 2 3) (argPair a 4 5) := Geometry.ok_iff _

theorem argGeometry_ok_eq_false_iff (a : Args) : (argGeometry a).ok = false ↔
    ¬geometryFits (argField a 1 0 8) (argPair a 2 3) (argPair a 4 5) := by
  rw [← Bool.not_eq_true, argGeometry_ok_iff]

theorem Domain.inService_eq_false_iff (x : Domain) : x.inService = false ↔ ¬Spec.inService x.state := by
  rw [← Bool.not_eq_true, Domain.inService_iff]

/-- A number that is a name's gives the name back. -/
theorem ofNat_eq_of_val {n : Nat} [NeZero n] {v : Nat} {x : Fin n} (h : v = x.val) : Fin.ofNat n v = x := by
  rw [h, Fin.ofNat_val_eq_self]

/-! ## Presented handles (R3) -/

theorem slotOf_eq {h : RawHandle} {i : SlotId} (hs : h.slot = i.val) : slotOf h = i := ofNat_eq_of_val hs

theorem handleCheck_noSlot {s : State} {h : RawHandle} {next : SlotId → Option ResultCode} (hs : 127 < h.slot) :
    handleCheck s h next = some .badHandle := by
  simp only [handleCheck, State.classify_noSlot hs]

theorem handleCheck_stale {s : State} {h : RawHandle} {i : SlotId} {next : SlotId → Option ResultCode}
    (hs : h.slot = i.val) (hw : h.generation ≠ (s.window i).generation ∨ (s.window i).state = .free) :
    handleCheck s h next = some .staleHandle := by
  have hstale : ¬((s.window i).generation = h.generation ∧ (s.window i).state ≠ .free) := by
    rintro ⟨hg, hf⟩
    exact hw.elim (· hg.symm) hf
  simp only [handleCheck, State.classify_slot hs, if_neg hstale]

theorem handleCheck_current {s : State} {h : RawHandle} {i : SlotId} {next : SlotId → Option ResultCode}
    (hs : h.slot = i.val) (hg : h.generation = (s.window i).generation) (hf : (s.window i).state ≠ .free) :
    handleCheck s h next = next i := by
  simp only [handleCheck, State.classify_slot hs, if_pos (And.intro hg.symm hf)]

/-! ## Written words -/

theorem pairWords_eq_twoWords (v : Nat) : pairWords v = twoWords (BitVec.ofNat 64 v) := pairWords_eq v

theorem Handle.word_eq_handleWord (i : SlotId) (g : BitVec 8) : (Handle.mk i g).word = handleWord i g := by
  refine BitVec.eq_of_getLsbD_eq fun k hk => ?_
  simp only [Handle.word, handleWord, BitVec.getLsbD_or, getLsbD_fieldWord, BitVec.getLsbD_append, BitVec.getLsbD_ofNat,
    BitVec.testBit_toNat]
  interval_cases k <;> simp

/-! ## Removal and notices in the words of the statements -/

/-- A removal leaves the record and the domain that R7 gives, and nothing else. -/
theorem State.removeWindow_eq (d : DomId) (i : SlotId) (s : State) : s.removeWindow d i =
    { s with
      windows := s.windows.set i (removed (s.windows[i]))
      domains := s.domains.set d (chainLeft (s.domains[d]) (s.windows[i])
        ((s.domains[d]).chain.filter fun j => decide (j ≠ i))) } := by
  by_cases hrefs : (s.windows[i]).refs = 0
  · have hrefs' : (s.window i).refs = 0 := hrefs
    simp only [State.removeWindow, removed, chainLeft, if_pos hrefs, if_pos hrefs']
    rfl
  · have hrefs' : ¬(s.window i).refs = 0 := hrefs
    simp only [State.removeWindow, removed, chainLeft, if_neg hrefs, if_neg hrefs']
    rfl

/-- The one occurrence of a slot on a chain goes, and the rest stays in order. -/
theorem filter_ne_middle {i : SlotId} {pre post : List SlotId} (h : i ∉ pre ++ post) :
    (pre ++ i :: post).filter (fun j => decide (j ≠ i)) = pre ++ post := by
  have hpre : pre.filter (fun j => decide (j ≠ i)) = pre :=
    List.filter_eq_self.2 fun j hj => by
      simp only [decide_eq_true_eq]
      rintro rfl
      exact h (List.mem_append_left _ hj)
  have hpost : post.filter (fun j => decide (j ≠ i)) = post :=
    List.filter_eq_self.2 fun j hj => by
      simp only [decide_eq_true_eq]
      rintro rfl
      exact h (List.mem_append_right _ hj)
  rw [List.filter_append, List.filter_cons_of_neg (by simp), hpre, hpost]

theorem State.pendNotice_ports (d : DomId) (skip : Option LinkId) (s : State) :
    (s.pendNotice d skip).ports = pended d skip s := by
  unfold State.pendNotice pended StreamSet.union boundStreams
  simp

theorem State.noticeIfSelf_eq (w : Window) (s : State) : s.noticeIfSelf w =
    { s with ports := if w.owner = .self then pended w.domain none s else s.ports } := by
  unfold State.noticeIfSelf
  split
  · rw [← State.pendNotice_ports]
    rfl
  · rfl

end Sys2Proof.Machine
end

section
/-! CERTIFICATES. The commands on windows (01_windows.md section 1.6): what each does when it is accepted, and the first
check that refuses it. -/

namespace Sys2Proof.Machine

open Sys2Proof.Spec

/-! ## INSTALL -/

/-- The window an INSTALL or REPLACE writes, in the words of its arguments (R15, R17). -/
theorem specWindow_eq {a : Args} {x : TargetId} (hx : argField a 1 16 8 = x.val) (d : DomId) (rank : Nat)
    (st : WindowState) (b : Option Nat) : specWindow a d rank st b =
      { state := st
        generation := 0
        domain := d
        owner := .management
        rank := rank
        base := BitVec.ofNat 48 (argPair a 2 3)
        sizeExp := argField a 1 0 8
        target := x
        targetBase := BitVec.ofNat 64 (argPair a 4 5)
        perms := argPerms a
        budget := b.map fun v => ⟨v, v⟩
        alert := false
        refs := 0 } := by
  simp only [specWindow, argTarget, ofNat_eq_of_val hx]
  rfl

/-- The window in a slot after an install into it and its entry on the chain (R4, R31). -/
theorem State.fillSlot_chainInsert_eq (d : DomId) (i : SlotId) (r : Nat) (w : Window) (s : State) :
    (s.fillSlot i w).chainInsert d i r =
      { s with
        windows := s.windows.set i { w with generation := (s.windows[i]).generation + 1 }
        domains := s.domains.set d
          { s.domains[d] with
            chain := insertByRank (s.windows.set i { w with generation := (s.windows[i]).generation + 1 }) i r
              (s.domains[d]).chain } } := rfl

/-- The ranks around a new slot decide its place, whatever record the slot itself holds (R31). -/
theorem insertByRank_set {ws : Vector Window 128} {w : Window} {i : SlotId} {r : Nat} {pre post : List SlotId}
    (hpre : ∀ j ∈ pre, (ws[j]).rank < r) (hpost : ∀ j ∈ post, r < (ws[j]).rank) (hnew : i ∉ pre ++ post) :
    insertByRank (ws.set i w) i r (pre ++ post) = pre ++ i :: post := by
  have hother : ∀ j ∈ pre ++ post, (ws.set i w)[j] = ws[j] := by
    intro j hj
    have hne : i.val ≠ j.val := fun h => hnew (Fin.ext h ▸ hj)
    simp [hne]
  refine insertByRank_append _ i r pre post (fun j hj => ?_) fun j hj => ?_
  · rw [hother j (List.mem_append_left _ hj)]
    exact (hpre j hj).not_gt
  · rw [hother j (List.mem_append_right _ hj)]
    exact hpost j hj

/-- The argument ranges of INSTALL in the words of R14. -/
abbrev installArgsBad (a : Args) : Prop :=
  15 < argField a 0 0 8 ∨ 127 < argField a 0 8 8 ∨ 3 < argField a 1 16 8 ∨ ¬permsFit (argPerms a) ∨
    ¬budgetFits (argBudget a 6 7) ∨ 1 < argField a 0 16 2

theorem installCheck_badArgument {a : Args} (h : installArgsBad a) (s : State) :
    installCheck a s = some .badArgument := by
  simp only [installArgsBad, ← Perms.legal_eq_false_iff, ← budgetOk_eq_false_iff] at h
  exact if_pos h

/-- The checks of INSTALL behind the argument ranges (R14). -/
theorem installCheck_of_args {a : Args} {d : DomId} (h : ¬installArgsBad a) (hd : argField a 0 0 8 = d.val) (s : State) :
    installCheck a s =
      if (s.domain d).inService = false then some .domainState
      else if (argGeometry a).ok = false then some .badGeometry
      else if s.rankHeld d (argField a 0 8 8) = true then some .rankTaken
      else if s.lowestFree = none then some .tableFull
      else none := by
  simp only [installArgsBad, ← Perms.legal_eq_false_iff, ← budgetOk_eq_false_iff] at h
  unfold installCheck
  dsimp only
  rw [ofNat_eq_of_val hd]
  exact if_neg h

/-- Settles O15: with the checks of R14 passed and the place on the chain given by the ranks around it. -/
theorem installFillsLowestFreeSlot : Obligations.InstallFillsLowestFreeSlot := by
  intro s c d x i pre post ht hd hrank hx hperms hbudget hinit hserv hgeom hchain hpre hpost hnew hfree
  have hlow : s.lowestFree = some i := (s.lowestFree_eq_some_iff i).2 hfree
  have hargs : ¬installArgsBad c.args := by
    simp only [installArgsBad, hd, hx, not_or, not_not]
    exact ⟨by omega, by omega, by omega, hperms, hbudget, by omega⟩
  have hrankFree : s.rankHeld d (argField c.args 0 8 8) = false := by
    rw [← Bool.not_eq_true, State.rankHeld_iff, State.domain_eq, hchain]
    rintro ⟨j, hj, heq⟩
    rcases List.mem_append.1 hj with hj | hj
    · exact absurd heq (hpre j hj).ne
    · exact absurd heq (hpost j hj).ne'
  have hcheck : installCheck c.args s = none := by
    have hserv' : (s.domain d).inService = true := (Domain.inService_iff _).2 hserv
    simp [installCheck_of_args hargs hd, hserv', (argGeometry_ok_iff c.args).2 hgeom, hrankFree, hlow]
  refine takeCommand_effects ht hcheck ?_
  simp only [installEffect, hlow, ofNat_eq_of_val hd, specWindow_eq hx, State.fillSlot_chainInsert_eq, hchain,
    insertByRank_set hpre hpost hnew, State.handleOf, State.window_eq, Handle.word_eq_handleWord]
  simp

/-- Settles O16: each clause is the branch of the check order its conditions select. -/
theorem installRefusedByFirstFailingCheck : Obligations.InstallRefusedByFirstFailingCheck := by
  intro s c ht badArgument badGeometry
  refine ⟨fun hb => takeCommand_refuses ht (installCheck_badArgument hb s), fun hargs d hd => ?_⟩
  have hcheck := installCheck_of_args hargs hd s
  have hbad : (argGeometry c.args).ok = false ↔ badGeometry := argGeometry_ok_eq_false_iff c.args
  have hserv : inService (s.domains[d]).state → (s.domain d).inService = true := (Domain.inService_iff (s.domain d)).2
  refine ⟨fun hout => ?_, fun hin hgeom => ?_, fun hin hgeom hrank => ?_, fun hin hgeom hrank hfull => ?_⟩ <;>
    refine takeCommand_refuses ht (hcheck.trans ?_)
  · exact if_pos ((Domain.inService_eq_false_iff _).2 hout)
  · simp [hserv hin, hbad.2 hgeom]
  · have hheld : s.rankHeld d (argField c.args 0 8 8) = true := (State.rankHeld_iff ..).2 hrank
    simp [hserv hin, hbad, hgeom, hheld]
  · have hheld : ¬s.rankHeld d (argField c.args 0 8 8) = true := fun h => hrank ((State.rankHeld_iff ..).1 h)
    simp [hserv hin, hbad, hgeom, hheld, s.lowestFree_eq_none_iff.2 hfull]

/-! ## The commands that name a window -/

theorem replaceCheck_badArgument {a : Args} {s : State}
    (h : 3 < argField a 1 16 8 ∨ ¬permsFit (argPerms a) ∨ ¬budgetFits (argBudget a 6 7)) :
    replaceCheck a s = some .badArgument := by
  simp only [← Perms.legal_eq_false_iff, ← budgetOk_eq_false_iff] at h
  exact if_pos h

/-- The checks of REPLACE behind the argument ranges (R16). -/
theorem replaceCheck_of_args {a : Args} {s : State}
    (h : ¬(3 < argField a 1 16 8 ∨ ¬permsFit (argPerms a) ∨ ¬budgetFits (argBudget a 6 7))) :
    replaceCheck a s = handleCheck s (argHandle a 0) fun i =>
      if (s.window i).state = .draining then some .windowState
      else if (s.window i).owner = .self then some .notOwner
      else if (argGeometry a).ok = false then some .badGeometry
      else if s.lowestFree = none then some .tableFull
      else none := by
  simp only [← Perms.legal_eq_false_iff, ← budgetOk_eq_false_iff] at h
  exact if_neg h

theorem setBudgetCheck_badArgument {a : Args} {s : State} (h : ¬budgetFits (argBudget a 1 2)) :
    setBudgetCheck a s = some .badArgument := if_pos ((budgetOk_eq_false_iff _).2 h)

theorem setBudgetCheck_of_args {a : Args} {s : State} (h : budgetFits (argBudget a 1 2)) :
    setBudgetCheck a s = handleCheck s (argHandle a 0) fun i =>
      if (s.window i).state = .draining then some .windowState else none :=
  if_neg fun hbad => (budgetOk_eq_false_iff _).1 hbad h

/-- The order of the refusals of one command that names a window: its argument ranges, then the handle, then the state of
the window, each checked by `check`. -/
structure RefusesInOrder (check : Args → State → Option ResultCode) (badArgument : Args → Prop)
    (badState : Window → Prop) : Prop where
  argument : ∀ {a s}, badArgument a → check a s = some .badArgument
  noSlot : ∀ {a s}, ¬badArgument a → 127 < argField a 0 0 16 → check a s = some .badHandle
  stale : ∀ {a s i}, ¬badArgument a → argField a 0 0 16 = i.val →
    (argHandle a 0).generation ≠ (s.window i).generation ∨ (s.window i).state = .free → check a s = some .staleHandle
  state : ∀ {a s i}, ¬badArgument a → argField a 0 0 16 = i.val →
    (argHandle a 0).generation = (s.window i).generation → (s.window i).state ≠ .free → badState (s.window i) →
    check a s = some .windowState

/-- A command refuses in order when behind its argument ranges it checks the handle and then the state of the window. -/
theorem RefusesInOrder.of_handleCheck {check : Args → State → Option ResultCode} {badArgument : Args → Prop}
    {badState : Window → Prop} {next : Args → State → SlotId → Option ResultCode}
    (hbad : ∀ {a s}, badArgument a → check a s = some .badArgument)
    (hcheck : ∀ {a s}, ¬badArgument a → check a s = handleCheck s (argHandle a 0) (next a s))
    (hstate : ∀ {a s i}, badState (s.window i) → next a s i = some .windowState) :
    RefusesInOrder check badArgument badState where
  argument := hbad
  noSlot ha hs := (hcheck ha).trans (handleCheck_noSlot hs)
  stale ha hs hw := (hcheck ha).trans (handleCheck_stale hs hw)
  state ha hs hg hf hw := ((hcheck ha).trans (handleCheck_current hs hg hf)).trans (hstate hw)

theorem replaceCheck_refuses : RefusesInOrder replaceCheck
    (fun a => 3 < argField a 1 16 8 ∨ ¬permsFit (argPerms a) ∨ ¬budgetFits (argBudget a 6 7))
    (fun w => w.state = .draining) :=
  .of_handleCheck replaceCheck_badArgument replaceCheck_of_args fun hw => if_pos hw

theorem retireCheck_refuses : RefusesInOrder retireCheck (fun _ => False) (fun w => w.state = .draining) :=
  .of_handleCheck False.elim (fun _ => rfl) fun hw => if_pos hw

theorem suspendCheck_refuses : RefusesInOrder suspendCheck (fun _ => False) (fun w => w.state ≠ .live) :=
  .of_handleCheck False.elim (fun _ => rfl) fun hw => if_pos hw

theorem resumeCheck_refuses : RefusesInOrder resumeCheck (fun _ => False) (fun w => w.state ≠ .suspended) :=
  .of_handleCheck False.elim (fun _ => rfl) fun hw => if_pos hw

theorem setBudgetCheck_refuses : RefusesInOrder setBudgetCheck (fun a => ¬budgetFits (argBudget a 1 2))
    (fun w => w.state = .draining) :=
  .of_handleCheck setBudgetCheck_badArgument (fun h => setBudgetCheck_of_args (not_not.1 h)) fun hw => if_pos hw

/-- The refusals of REPLACE behind the state of the window (R16). -/
theorem replaceCheck_current {a : Args} {s : State} {i : SlotId}
    (ha : ¬(3 < argField a 1 16 8 ∨ ¬permsFit (argPerms a) ∨ ¬budgetFits (argBudget a 6 7)))
    (hs : argField a 0 0 16 = i.val) (hg : (argHandle a 0).generation = (s.window i).generation)
    (hf : (s.window i).state ≠ .free) (hd : (s.window i).state ≠ .draining) : replaceCheck a s =
      if (s.window i).owner = .self then some .notOwner
      else if (argGeometry a).ok = false then some .badGeometry
      else if s.lowestFree = none then some .tableFull
      else none :=
  ((replaceCheck_of_args ha).trans (handleCheck_current hs hg hf)).trans (if_neg hd)

/-- A row of `WindowCommandsRefusedInOrder` takes its command with checks that refuse in order. -/
theorem windowCommand_refuses {row : Instr} {k : Nat} (s : State) (a : Args)
    (hmem : (row, k) ∈ [(Instr.replace, 0x02), (Instr.retire, 0x03), (Instr.suspend, 0x04), (Instr.resume, 0x05),
      (Instr.setBudget, 0x06)]) :
    ∃ (check : Args → State → Option ResultCode) (effect : Args → State → Done) (badArgument : Args → Prop)
      (badState : Window → Prop),
      exec row s = takeCommand (codeIs k) (fun a s => Done.checked (check a s) (fun _ => effect a s) s) s ∧
      RefusesInOrder check badArgument badState ∧
      ((k = 0x02 ∧ (3 < argField a 1 16 8 ∨ ¬permsFit (argPerms a) ∨ ¬budgetFits (argBudget a 6 7)) ∨
        k = 0x06 ∧ ¬budgetFits (argBudget a 1 2)) ↔ badArgument a) ∧
      ∀ w : Window, w.state = .draining ∨ (k = 0x04 ∧ w.state ≠ .live) ∨ (k = 0x05 ∧ w.state ≠ .suspended) →
        badState w := by
  simp only [List.mem_cons, Prod.mk.injEq, List.not_mem_nil, or_false] at hmem
  rcases hmem with ⟨rfl, rfl⟩ | ⟨rfl, rfl⟩ | ⟨rfl, rfl⟩ | ⟨rfl, rfl⟩ | ⟨rfl, rfl⟩
  · exact ⟨_, replaceEffect, _, _, rfl, replaceCheck_refuses, by simp, fun w h => by simpa using h⟩
  · exact ⟨_, retireEffect, _, _, rfl, retireCheck_refuses, by simp, fun w h => by simpa using h⟩
  · refine ⟨_, suspendEffect, _, _, rfl, suspendCheck_refuses, by simp, fun w h => ?_⟩
    rcases h with h | h | h
    · simp [h]
    · exact h.2
    · exact absurd h.1 (by decide)
  · refine ⟨_, resumeEffect, _, _, rfl, resumeCheck_refuses, by simp, fun w h => ?_⟩
    rcases h with h | h | h
    · simp [h]
    · exact absurd h.1 (by decide)
    · exact h.2
  · exact ⟨_, setBudgetEffect, _, _, rfl, setBudgetCheck_refuses, by simp, fun w h => by simpa using h⟩

/-- Settles O18: the common order once for all five rows, and behind it the further checks of REPLACE. -/
theorem windowCommandsRefusedInOrder : Obligations.WindowCommandsRefusedInOrder := by
  intro s c row k hmem ht badArgument
  obtain ⟨check, effect, bad, badState, hrow, horder, hbad, hstate⟩ := windowCommand_refuses s c.args hmem
  have hrefused : ∀ {code}, check c.args s = some code → refused row c code s := fun hc =>
    hrow.trans (takeCommand_refuses ht hc)
  refine ⟨fun hb => hrefused (horder.argument (hbad.1 hb)), fun hb hs => hrefused (horder.noSlot (mt hbad.2 hb) hs),
    fun hb i hi => ?_⟩
  intro w stale wrongState badGeometry
  have hcur : ¬stale → (argHandle c.args 0).generation = (s.window i).generation ∧ (s.window i).state ≠ .free := by
    intro hstale
    simpa [stale, w, not_or, argHandle, State.window_eq] using hstale
  have hreplace : k = 0x02 → row = .replace := by
    rintro rfl
    simpa using hmem
  have hcheck : k = 0x02 → ¬stale → ¬wrongState → ∀ {code},
      (if w.owner = .self then some .notOwner else if (argGeometry c.args).ok = false then some .badGeometry
        else if s.lowestFree = none then some .tableFull else none) = some code → refused row c code s := by
    intro hk hstale hwrong code hcode
    obtain ⟨hg, hf⟩ := hcur hstale
    obtain rfl := hreplace hk
    subst hk
    refine takeCommand_refuses ht ((replaceCheck_current (fun h => hb (.inl ⟨rfl, h⟩)) hi hg hf ?_).trans hcode)
    exact fun h => hwrong (.inl h)
  have hgeom : (argGeometry c.args).ok = false ↔ badGeometry := argGeometry_ok_eq_false_iff c.args
  refine ⟨fun hstale => hrefused (horder.stale (mt hbad.2 hb) hi hstale), fun hstale hwrong => ?_,
    fun hstale hwrong hk hown => hcheck hk hstale hwrong (by simp [hown]),
    fun hstale hwrong hk hown hbadg => hcheck hk hstale hwrong (by simp [hown, hgeom, hbadg]),
    fun hstale hwrong hk hown hbadg hfull => hcheck hk hstale hwrong
      (by simp [hown, hgeom, hbadg, s.lowestFree_eq_none_iff.2 hfull])⟩
  obtain ⟨hg, hf⟩ := hcur hstale
  exact hrefused (horder.state (mt hbad.2 hb) hi hg hf (hstate _ hwrong))

/-! ## Accepted REPLACE -/

/-- On a chain one slot takes the place of another (R17). -/
theorem map_replace_middle {old i : SlotId} {pre post : List SlotId} (h : old ∉ pre ++ post) :
    (pre ++ old :: post).map (fun j => if j = old then i else j) = pre ++ i :: post := by
  have hsame : ∀ js : List SlotId, old ∉ js → js.map (fun j => if j = old then i else j) = js := by
    intro js hjs
    refine (List.map_congr_left (g := id) fun j hj => if_neg ?_).trans (List.map_id js)
    rintro rfl
    exact hjs hj
  simp only [List.mem_append, not_or] at h
  rw [List.map_append, List.map_cons, if_pos rfl, hsame pre h.1, hsame post h.2]

/-- A LIVE or SUSPENDED window is neither FREE nor DRAINING. -/
theorem Window.onChain_state {w : Window} (h : w.state = .live ∨ w.state = .suspended) :
    w.state ≠ .free ∧ w.state ≠ .draining := by
  rcases h with h | h <;> simp [h]

/-- A slot filled at the place of another, whose window is then removed (R17): the chain keeps its order, with the new
slot where the old one stood. -/
theorem State.replaceSlot_eq {s : State} {d : DomId} {old i : SlotId} {v : Window} {pre post : List SlotId} (hne : i ≠ old)
    (hchain : (s.domains[d]).chain = pre ++ old :: post) (hold : old ∉ pre ++ post) :
    ((s.fillSlot i v).modDomain d fun x =>
      { x with chain := x.chain.map fun j => if j = old then i else j }).removeWindow d old =
      { s with
        windows := (s.windows.set i { v with generation := (s.windows[i]).generation + 1 }).set old
          (removed (s.windows[old]))
        domains := s.domains.set d (chainLeft (s.domains[d]) (s.windows[old]) (pre ++ i :: post)) } := by
  have hfilter : (pre ++ i :: post).filter (fun j => decide (j ≠ old)) = pre ++ i :: post := by
    refine List.filter_eq_self.2 fun j hj => ?_
    simp only [decide_eq_true_eq]
    rintro rfl
    simp only [List.mem_append, List.mem_cons, not_or] at hj hold
    exact hj.elim hold.1 fun hj => hj.elim (fun h => hne h.symm) hold.2
  have hwin : ((s.fillSlot i v).modDomain d fun x =>
      { x with chain := x.chain.map fun j => if j = old then i else j }).windows[old] = s.windows[old] := by
    have hne' : i.val ≠ old.val := fun h => hne (Fin.ext h)
    simp [State.fillSlot, hne']
  have hdom : ((s.fillSlot i v).modDomain d fun x =>
      { x with chain := x.chain.map fun j => if j = old then i else j }).domains[d] =
        { s.domains[d] with chain := pre ++ i :: post } := by
    simp only [State.modDomain_domains, Fin.getElem_fin, Vector.getElem_set_self]
    rw [State.domain_eq, State.fillSlot_domains, hchain, map_replace_middle hold]
    rfl
  rw [State.removeWindow_eq, hwin, hdom, hfilter]
  simp only [State.modDomain_domains, State.fillSlot_domains, Vector.set_set]
  rfl

/-- Settles O17: the checks of R16 pass, and the rest is the exchange of the two slots. -/
theorem replaceSwapsWindowAtItsRank : Obligations.ReplaceSwapsWindowAtItsRank := by
  intro s c old i x pre post w ht hslot hgen hx hperms hbudget hstate hown hgeom hfree hchain hold hnew
  have hlow : s.lowestFree = some i := (s.lowestFree_eq_some_iff i).2 hfree
  have hlive : (s.window old).state ≠ .free ∧ (s.window old).state ≠ .draining := Window.onChain_state hstate
  have hne : i ≠ old := by
    rintro rfl
    exact hlive.1 hfree.1
  have hargs : ¬(3 < argField c.args 1 16 8 ∨ ¬permsFit (argPerms c.args) ∨ ¬budgetFits (argBudget c.args 6 7)) := by
    simp only [hx, not_or, not_not]
    exact ⟨by omega, hperms, hbudget⟩
  have hcheck : replaceCheck c.args s = none := by
    rw [replaceCheck_current hargs hslot hgen hlive.1 hlive.2]
    have hmgmt : (s.window old).owner = .management := hown
    simp [hmgmt, (argGeometry_ok_iff c.args).2 hgeom, hlow]
  have hhandle : slotOf (argHandle c.args 0) = old := slotOf_eq hslot
  have hname : ∀ t : State, t.windows = (s.windows.set i { specWindow c.args w.domain w.rank .live (argBudget c.args 6 7)
        with generation := (s.windows[i]).generation + 1 }).set old (removed w) →
      (t.handleOf i).word = handleWord i ((s.windows[i]).generation + 1) := by
    intro t ht
    have hne' : old.val ≠ i.val := fun h => hne (Fin.ext h.symm)
    simp [State.handleOf, State.window_eq, ht, hne', Handle.word_eq_handleWord]
  refine takeCommand_effects ht hcheck ?_
  simp only [replaceEffect, hlow, hhandle]
  rw [show s.window old = w from rfl, State.replaceSlot_eq hne hchain hold, hname _ rfl, specWindow_eq hx]
  rfl

/-! ## Accepted RETIRE, SUSPEND, RESUME and SET_BUDGET -/

/-- Settles O19. -/
theorem retireRemovesWindowFromChain : Obligations.RetireRemovesWindowFromChain := by
  intro s c i pre post w ht hslot hgen hstate hchain hnot
  have hlive : (s.window i).state ≠ .free ∧ (s.window i).state ≠ .draining := Window.onChain_state hstate
  have hcheck : retireCheck c.args s = none := (handleCheck_current hslot hgen hlive.1).trans (if_neg hlive.2)
  refine takeCommand_effects ht hcheck ?_
  have hhandle : slotOf (argHandle c.args 0) = i := slotOf_eq hslot
  have hchain' : (s.domains[(s.window i).domain]).chain = pre ++ i :: post := hchain
  simp only [retireEffect, hhandle, State.removeWindow_eq, State.noticeIfSelf_eq, hchain', filter_ne_middle hnot]
  rfl

/-- Settles O20: the checks pass and each effect writes the one record. -/
theorem windowChangedInPlace : Obligations.WindowChangedInPlace := by
  intro s c i w hslot hgen
  have hhandle : slotOf (argHandle c.args 0) = i := slotOf_eq hslot
  have hcurrent : ∀ next, w.state ≠ .free → handleCheck s (argHandle c.args 0) next = next i := fun next hf =>
    handleCheck_current hslot hgen hf
  refine ⟨fun ht hlive => takeCommand_effects ht ?_ ?_, fun ht hsusp => takeCommand_effects ht ?_ ?_,
    fun ht hstate hbudget => takeCommand_effects ht ?_ ?_⟩
  · exact (hcurrent _ (by simp [hlive])).trans (if_neg (not_not.2 hlive))
  · simp only [suspendEffect, hhandle, State.noticeIfSelf_eq]
    rfl
  · exact (hcurrent _ (by simp [hsusp])).trans (if_neg (not_not.2 hsusp))
  · simp only [resumeEffect, hhandle, State.noticeIfSelf_eq]
    rfl
  · have hlive := Window.onChain_state hstate
    exact (setBudgetCheck_of_args hbudget).trans ((hcurrent _ hlive.1).trans (if_neg hlive.2))
  · simp only [setBudgetEffect, hhandle]
    rfl

/-! ## READ_WINDOW -/

/-- Bit `k` of a field placed at `lo`, read from the field's own bits. -/
theorem getLsbD_fieldWord_ofNat (lo len v k : Nat) : (fieldWord lo len v).getLsbD k =
    (decide (lo ≤ k ∧ k < 32) && (BitVec.ofNat len v).getLsbD (k - lo)) := by
  rw [getLsbD_fieldWord, BitVec.getLsbD_ofNat]
  by_cases hlo : lo ≤ k <;> by_cases h32 : k < 32 <;> simp [hlo, h32]

theorem ofNat_permsToNat (p : Perms) : BitVec.ofNat 3 p.toNat = permBits p := by
  obtain ⟨r, w, sp⟩ := p
  cases r <;> cases w <;> cases sp <;> rfl

theorem ofNat_boolToNat (b : Bool) : BitVec.ofNat 1 b.toNat = BitVec.ofBool b := by
  cases b <;> rfl

/-- The first result word of READ_WINDOW, field by field (R192). -/
theorem windowStateWord_eq (w : Window) :
    fieldWord 0 2 w.state.num ||| fieldWord 4 1 w.owner.num ||| fieldWord 8 3 w.perms.toNat
      ||| fieldWord 12 1 w.budget.isSome.toNat ||| fieldWord 13 1 w.alert.toNat
      ||| fieldWord 16 8 w.generation.toNat ||| fieldWord 24 8 w.domain.val =
    BitVec.ofNat 8 w.domain.val ++ w.generation ++ 0#2 ++ BitVec.ofBool w.alert
      ++ BitVec.ofBool w.budget.isSome ++ 0#1 ++ permBits w.perms ++ 0#3 ++ BitVec.ofNat 1 w.owner.num
      ++ 0#2 ++ BitVec.ofNat 2 w.state.num := by
  refine BitVec.eq_of_getLsbD_eq fun k hk => ?_
  simp only [BitVec.getLsbD_or, getLsbD_fieldWord_ofNat, ofNat_permsToNat, ofNat_boolToNat, BitVec.ofNat_toNat,
    BitVec.setWidth_eq, BitVec.getLsbD_append]
  interval_cases k <;> simp

theorem windowAreaWord_eq (w : Window) :
    fieldWord 0 8 w.rank ||| fieldWord 8 8 w.sizeExp ||| fieldWord 16 8 w.target.val ||| fieldWord 24 8 w.refs =
    BitVec.ofNat 8 w.refs ++ BitVec.ofNat 8 w.target.val ++ BitVec.ofNat 8 w.sizeExp ++ BitVec.ofNat 8 w.rank := by
  refine BitVec.eq_of_getLsbD_eq fun k hk => ?_
  simp only [BitVec.getLsbD_or, getLsbD_fieldWord, BitVec.getLsbD_append, BitVec.getLsbD_ofNat]
  interval_cases k <;> simp

/-- The ten result words of READ_WINDOW (R192). -/
theorem windowWords_eq (w : Window) : windowWords w =
    [ BitVec.ofNat 8 w.domain.val ++ w.generation ++ 0#2 ++ BitVec.ofBool w.alert
          ++ BitVec.ofBool w.budget.isSome ++ 0#1 ++ permBits w.perms ++ 0#3 ++ BitVec.ofNat 1 w.owner.num
          ++ 0#2 ++ BitVec.ofNat 2 w.state.num,
        BitVec.ofNat 8 w.refs ++ BitVec.ofNat 8 w.target.val ++ BitVec.ofNat 8 w.sizeExp ++ BitVec.ofNat 8 w.rank ]
      ++ twoWords (w.base.setWidth 64) ++ twoWords w.targetBase
      ++ twoWords (BitVec.ofNat 64 ((w.budget.map fun b => b.setValue).getD 0))
      ++ twoWords (BitVec.ofNat 64 ((w.budget.map fun b => b.remaining).getD 0)) := by
  unfold windowWords
  simp only [windowStateWord_eq, windowAreaWord_eq, pairWords_eq_twoWords, BitVec.ofNat_toNat, BitVec.setWidth_eq]

/-- Settles O21: a slot number in range names the slot whose words are returned. -/
theorem readWindowReturnsRecord : Obligations.ReadWindowReturnsRecord := by
  intro s c ht
  have hexec := takeCommand_takes (act := readWindowAct) ht
  refine ⟨fun hslot => hexec.trans ?_, fun i hi => hexec.trans ?_⟩
  · simp only [readWindowAct, if_pos hslot, Done.checked_some, Done.refuse_state, Done.refuse_code, Done.refuse_items]
  · have hrange : ¬127 < argField c.args 0 0 16 := by omega
    simp only [readWindowAct, if_neg hrange, Done.checked_none, ofNat_eq_of_val hi, windowWords_eq]
    rfl

end Sys2Proof.Machine
end

section
/-! CERTIFICATES. The reference drop (R9, R49), and the examinations that end without a fault or an admission (the outcome
table of section 3.6). -/

namespace Sys2Proof.Machine

open Sys2Proof.Spec

/-- Settles O22: the three branches of a drop against the current generation. -/
theorem referenceDropMayFreeWindowAndEndPurge : Obligations.ReferenceDropMayFreeWindowAndEndPurge := by
  intro s h w x hgen
  refine ⟨fun hkeeps => ?_, fun hdrain hrefs hdom => ?_, fun hdrain hrefs hpurge hcount => ?_⟩
  · have hnot : ¬((s.window h.slot).state = .draining ∧ (s.window h.slot).refs - 1 = 0) := by
      rintro ⟨hd, hr⟩
      have hr' : w.refs - 1 = 0 := hr
      exact hkeeps.elim (fun hs => hs hd) fun hlt => absurd hr' (by omega)
    exact State.dropRef_not_last hgen hnot
  all_goals
    have hlast : (s.window h.slot).state = .draining ∧ (s.window h.slot).refs - 1 = 0 :=
      ⟨hdrain, by rw [show (s.window h.slot).refs = 1 from hrefs]⟩
    rw [State.dropRef_last hgen hlast]
  · have hnot : ¬(((s.clearSlot h.slot).domain w.domain).state = .purging ∧
        ((s.clearSlot h.slot).domain w.domain).drainingCount - 1 = 0) := by
      rintro ⟨hp, hc⟩
      have hc' : x.drainingCount - 1 = 0 := hc
      exact hdom.elim (fun hs => hs hp) fun hlt => absurd hc' (by omega)
    exact State.noteFreed_not_last hnot
  · have hend : ((s.clearSlot h.slot).domain w.domain).state = .purging ∧
        ((s.clearSlot h.slot).domain w.domain).drainingCount - 1 = 0 :=
      ⟨hpurge, by rw [show ((s.clearSlot h.slot).domain w.domain).drainingCount = 1 from hcount]⟩
    exact State.noteFreed_last hend

/-! ## Examinations -/

theorem State.freeEntry_eq_some {s : State} {l : LinkId} {e : EntryNo} (h : lowestFreeEntry s l e) :
    s.freeEntry l = some e := by
  unfold State.freeEntry
  rw [List.find?_eq_some_iff_getElem]
  refine ⟨?_, e.val, by simp, by simp, fun j hj => ?_⟩
  · rw [State.entry_eq, h.1]
    rfl
  · have hlow := h.2 ⟨j, by omega⟩ (Fin.lt_def.2 hj)
    have hbusy : ∀ x : Entry, x ≠ .free → (!x.isFree) = true := by
      intro x hx
      cases x <;> simp [Entry.isFree] at hx ⊢
    rw [← State.entry_eq] at hlow
    simpa using hbusy _ hlow

/-- An examination of an UP link with a request at the head of its queue and a FREE entry (R88, R89). -/
theorem exec_examination {s : State} {l : LinkId} {e : EntryNo} {q : Request} {rest : List Request}
    (hup : (s.port l).state = .up) (hq : (s.port l).ingress = q :: rest) (he : lowestFreeEntry s l e) :
    exec (.examination l) s = .next (s.examine l e q rest) := by
  simp only [exec, execExamination, hq, State.freeEntry_eq_some he, if_pos hup]

/-- An examination that ends in a refusal hands that refusal and leaves the changes of its resolution. -/
theorem State.examine_refused {s : State} {l : LinkId} {e : EntryNo} {q : Request} {rest : List Request} {c : ReplyCode}
    (h : (s.ruling q).outcome q.kind = .refused c) : s.examine l e q rest =
      handed l ⟨q.tag, q.stream, .refused c⟩ ((popped l rest s).resolutionChanges q (s.ruling q)) := by
  simp only [State.examine, h]
  rfl

/-- An examination that absorbs its request hands the answer of R69. -/
theorem State.examine_absorbed {s : State} {l : LinkId} {e : EntryNo} {q : Request} {rest : List Request}
    (h : (s.ruling q).outcome q.kind = .absorbed) : s.examine l e q rest =
      handed l ⟨q.tag, q.stream, absorbedAnswer q⟩ ((popped l rest s).resolutionChanges q (s.ruling q)) := by
  simp only [State.examine, h]
  rfl

theorem absorbedAnswer_eq (q : Request) :
    absorbedAnswer q = if q.kind = .wr then .done else .data (List.replicate q.length 0) := by
  unfold absorbedAnswer
  cases q.kind <;> rfl

/-- A request that is no speculative read has the plain outcome and the plain changes (R55). -/
theorem Ruling.outcome_plain {k : ReqKind} (hk : k ≠ .rds) (r : Ruling) : r.outcome k = r.plainOutcome := by
  cases k with
  | wr | rd => rfl
  | rds => exact absurd rfl hk

theorem State.resolutionChanges_plain {q : Request} (hk : q.kind ≠ .rds) (r : Ruling) (s : State) :
    s.resolutionChanges q r = s.plainChanges q r := by
  unfold State.resolutionChanges
  split
  · rfl
  · rfl
  · next h => exact absurd h hk

/-- A speculative read that is not admitted is declined and changes nothing, but for NO_STREAM (R55). -/
theorem Ruling.outcome_spec {r : Ruling} (hs : r ≠ .noStream) (ha : ∀ d i, r ≠ .admits d i) :
    r.outcome .rds = .refused .specDeclined := by
  cases r with
  | noStream => exact absurd rfl hs
  | admits d i => exact absurd rfl (ha d i)
  | unbound p => cases p <;> rfl
  | miss d p => cases p <;> rfl
  | halted | suspended | boundary | access | targetOffline | budget => rfl

theorem StreamSet.eq_none_iff (m : StreamSet) : m = StreamSet.none ↔ ∀ st : DataStream, m[st] = false := by
  constructor
  · rintro rfl st
    simp [StreamSet.none]
  · intro h
    refine Vector.ext fun i hi => ?_
    simpa [StreamSet.none] using h ⟨i, hi⟩

/-- An arrival on an unbound stream joins the link's set, and raises UNBOUND when the set was empty (R57, R77). -/
theorem State.noteUnbound_eq (l : LinkId) (st : DataStream) (s : State) : s.noteUnbound l st =
    { s with
      ports := s.ports.set l { s.ports[l] with unboundSet := (s.ports[l]).unboundSet.set st true }
      events := if (∀ st : DataStream, (s.ports[l]).unboundSet[st] = false) then s.events.raiseLink l .unbound
        else s.events } := by
  have hset : (s.port l).unboundSet = StreamSet.none ↔ ∀ st : DataStream, (s.ports[l]).unboundSet[st] = false :=
    StreamSet.eq_none_iff _
  unfold State.noteUnbound
  simp only [hset]
  split <;> rfl

/-- The alert is set, and BUDGET_SPENT is raised when it was clear (R12, R13). -/
theorem State.setAlert_eq (i : SlotId) (s : State) : s.setAlert i =
    { s with
      windows := s.windows.set i { s.windows[i] with alert := true }
      events := if (s.windows[i]).alert = true then s.events
        else s.events.raiseDom (s.windows[i]).domain .budgetSpent } := by
  unfold State.setAlert
  by_cases ha : (s.windows[i]).alert = true
  · have hsame : s.windows.set i { s.windows[i] with alert := true } = s.windows := by
      rw [← ha]
      exact Vector.set_getElem_self i.isLt
    have ha' : (s.window i).alert = true := ha
    simp only [if_pos ha, if_pos ha', hsame]
  · have ha' : ¬(s.window i).alert = true := ha
    simp only [if_neg ha, if_neg ha']
    rfl

/-- Settles O30: the outcome and the changes of the ruling, row by row of the outcome table. -/
theorem examinationAnswersWithoutAdmission : Obligations.ExaminationAnswersWithoutAdmission := by
  intro s l e q rest hup hq hlink he t answers zeros
  have hexec := exec_examination hup hq he
  have hrefused : ∀ {c u}, (s.ruling q).outcome q.kind = .refused c → t.resolutionChanges q (s.ruling q) = u →
      answers (.refused c) u := fun hout hu => by
    rw [← hu]
    exact hexec.trans (congrArg Host.Outcome.next (State.examine_refused hout))
  have habsorbed : ∀ {u}, (s.ruling q).outcome q.kind = .absorbed → t.resolutionChanges q (s.ruling q) = u →
      answers zeros u := fun hout hu => by
    rw [← hu, show zeros = absorbedAnswer q from (absorbedAnswer_eq q).symm]
    exact hexec.trans (congrArg Host.Outcome.next (State.examine_absorbed hout))
  refine ⟨fun hr => ?_, fun hk hs ha => ?_, fun hk => ?_⟩
  · refine hrefused ?_ ?_ <;> rw [hr]
    · cases q.kind <;> rfl
    · unfold State.resolutionChanges
      cases q.kind <;> rfl
  · refine hrefused (by rw [hk, Ruling.outcome_spec hs ha]) ?_
    simp only [State.resolutionChanges, hk, State.specChanges_of_not_admitted ha]
  · rw [Ruling.outcome_plain hk] at hrefused habsorbed
    rw [State.resolutionChanges_plain hk] at hrefused habsorbed
    refine ⟨fun p hr => ?_, fun hr => ?_, fun d hr => ?_, fun d hr => ?_, fun d i hr => ?_, fun d i hr => ?_,
      fun d i hr => ?_⟩ <;> rw [hr] at hrefused habsorbed
    · have hset : (t.ports[l]).unboundSet = (s.ports[l]).unboundSet := by simp [t, popped]
      have hchange : t.plainChanges q (.unbound p) = _ := State.noteUnbound_eq q.link q.stream t
      rw [hlink, hset] at hchange
      cases p with
      | refuse => exact hrefused rfl hchange
      | absorb => exact habsorbed rfl hchange
    · exact hrefused rfl rfl
    · exact hrefused rfl rfl
    · exact habsorbed rfl rfl
    · exact hrefused rfl rfl
    · exact hrefused rfl rfl
    · exact hrefused rfl (State.setAlert_eq i t)

end Sys2Proof.Machine
end

section
/-! CERTIFICATES. TARGET_SET (R114): what the ending of a list of tracker entries leaves in each table, and the four cases
of the command. -/

namespace Sys2Proof.Machine

open Sys2Proof.Spec

/-! ## The end of one entry, table by table -/

/-- The fabric tag an entry holds (R86). -/
def Entry.tag? : Entry → Option TagNo
  | .free => none
  | .waitTag _ => none
  | .issued _ g _ => some g

theorem State.endWithReply_free {fate : TagFate} {answer : EntryReq → DataAnswer} {l : LinkId} {e : EntryNo} {s : State}
    (h : s.entry l e = .free) : s.endWithReply fate answer l e = s := by
  simp only [State.endWithReply, h, Entry.request?]

theorem State.endWithReply_request {fate : TagFate} {answer : EntryReq → DataAnswer} {l : LinkId} {e : EntryNo} {s : State}
    {r : EntryReq} (h : (s.entry l e).request? = some r) : s.endWithReply fate answer l e =
      (s.endEntry fate l e).handData l ⟨r.tag, r.stream, answer r⟩ := by
  simp only [State.endWithReply, h]

/-- An entry that ends leaves its link's waiting list if it waits; no other list changes (R98). -/
theorem State.waitList_endWithReply (fate : TagFate) (answer : EntryReq → DataAnswer) (l m : LinkId) (e : EntryNo)
    (s : State) : (s.endWithReply fate answer l e).waitList m =
      (s.waitList m).filter fun f => decide (¬((m, f) = (l, e) ∧ (s.entry l e).isWaiting = true)) := by
  cases hx : s.entry l e with
  | free =>
    rw [State.endWithReply_free hx]
    simp [Entry.isWaiting]
  | waitTag r =>
    rw [State.endWithReply_request (r := r) (by rw [hx]; rfl), State.waitList_handData, State.endEntry_waitTag hx,
      State.waitList_eq, State.dropRef_waiting, ← State.waitList_eq, State.waitList_setWaiting]
    by_cases hlm : l = m
    · subst hlm
      simp [Entry.isWaiting]
    · simp [Entry.isWaiting, hlm, Ne.symm hlm]
  | issued r g dl =>
    rw [State.endWithReply_request (r := r) (by rw [hx]; rfl), State.waitList_handData, State.endEntry_issued hx,
      State.waitList_eq, State.dropRef_waiting]
    simp [Entry.isWaiting, State.waitList_eq]

/-- An entry that ends frees the tag it holds, under the fate FREED; no other tag changes (R97). -/
theorem State.tag_endWithReply (answer : EntryReq → DataAnswer) (l : LinkId) (e : EntryNo) (s : State) (g : TagNo) :
    (s.endWithReply .freed answer l e).tag g = if (s.entry l e).tag? = some g then .free else s.tag g := by
  cases hx : s.entry l e with
  | free =>
    rw [State.endWithReply_free hx]
    rfl
  | waitTag r =>
    rw [State.endWithReply_request (r := r) (by rw [hx]; rfl), State.tag_handData, State.endEntry_waitTag hx,
      State.tag_eq, State.dropRef_fabric]
    rfl
  | issued r t dl =>
    rw [State.endWithReply_request (r := r) (by rw [hx]; rfl), State.tag_handData, State.endEntry_issued hx,
      State.tag_eq, State.dropRef_fabric, ← State.tag_eq, State.tag_setTag]
    simp only [Entry.tag?, Option.some.injEq]
    rfl

/-- An entry that ends changes nothing at the Fabric Request Unit but its tag. -/
theorem State.fabric_endWithReply (fate : TagFate) (answer : EntryReq → DataAnswer) (l : LinkId) (e : EntryNo)
    (s : State) : (s.endWithReply fate answer l e).fabric = { s.fabric with tags := (s.endWithReply fate answer l e).fabric.tags } := by
  cases hx : s.entry l e with
  | free => rw [State.endWithReply_free hx]
  | waitTag r =>
    rw [State.endWithReply_request (r := r) (by rw [hx]; rfl), State.handData_fabric, State.endEntry_waitTag hx,
      State.dropRef_fabric]
    rfl
  | issued r t dl =>
    rw [State.endWithReply_request (r := r) (by rw [hx]; rfl), State.handData_fabric, State.endEntry_issued hx,
      State.dropRef_fabric]
    rfl

/-- An entry that ends leaves the records as the drop of its reference does. -/
theorem State.endWithReply_sameRecords {fate : TagFate} {answer : EntryReq → DataAnswer} {l : LinkId} {e : EntryNo}
    {s : State} {r : EntryReq} (h : (s.entry l e).request? = some r) :
    (s.dropRef r.window).SameRecords (s.endWithReply fate answer l e) := by
  rw [State.endWithReply_request h]
  obtain ⟨hw, hd, he⟩ := State.endEntry_sameRecords (fate := fate) h
  exact ⟨hw, hd, he⟩

/-! ## The end of a list of entries, table by table -/

theorem State.SameRecords.refl (s : State) : s.SameRecords s := ⟨rfl, rfl, rfl⟩

theorem State.SameRecords.trans {s t u : State} (h : s.SameRecords t) (h' : t.SameRecords u) : s.SameRecords u :=
  ⟨h'.windows.trans h.windows, h'.domains.trans h.domains, h'.events.trans h.events⟩

theorem nodup_of_append_singleton {α : Type} {xs : List α} {x : α} (h : (xs ++ [x]).Nodup) : xs.Nodup ∧ x ∉ xs := by
  obtain ⟨hxs, -, hdisj⟩ := List.nodup_append.1 h
  exact ⟨hxs, fun hx => hdisj x hx x (by simp) rfl⟩

theorem State.endAll_append (les : List (LinkId × EntryNo)) (le : LinkId × EntryNo) (s : State) :
    s.endAll (les ++ [le]) =
      (s.endAll les).endWithReply .freed (fun _ => .refused .targetError) le.1 le.2 := by
  simp [State.endAll]

theorem State.endAll_keeps {α : Type} {read : State → α}
    (h : ∀ (t : State) (l : LinkId) (e : EntryNo),
      read (t.endWithReply .freed (fun _ => .refused .targetError) l e) = read t)
    (les : List (LinkId × EntryNo)) (s : State) : read (s.endAll les) = read s := by
  induction les using List.reverseRecOn with
  | nil => rfl
  | append_singleton les le ih => rw [State.endAll_append, h, ih]

theorem State.entry_endAll (les : List (LinkId × EntryNo)) (s : State) (m : LinkId) (f : EntryNo) :
    (s.endAll les).entry m f = if (m, f) ∈ les then .free else s.entry m f := by
  induction les using List.reverseRecOn with
  | nil => simp [State.endAll]
  | append_singleton les le ih =>
    rw [State.endAll_append, State.entry_endWithReply, ih]
    have hle : (m, f) ∈ les ++ [le] ↔ (le.1 = m ∧ le.2 = f) ∨ (m, f) ∈ les := by
      rw [List.mem_append, List.mem_singleton, eq_comm (a := (m, f)), Prod.ext_iff, or_comm]
    by_cases hend : le.1 = m ∧ le.2 = f
    · rw [if_pos hend, if_pos (hle.2 (.inl hend))]
    · rw [if_neg hend]
      exact if_congr (by rw [hle, or_iff_right hend]) rfl rfl

/-- The requests in a list of entries, with one more entry at its end. -/
theorem requestsOf_append (s : State) (les : List (LinkId × EntryNo)) (le : LinkId × EntryNo) :
    requestsOf s (les ++ [le]) = requestsOf s les ++ (s.entry le.1 le.2).request?.toList := by
  unfold requestsOf
  rw [List.filterMap_append]
  congr 1

section
variable {s : State} {les : List (LinkId × EntryNo)}

theorem State.endAll_sameRecords (hn : les.Nodup) :
    (dropAll ((requestsOf s les).map (·.window)) s).SameRecords (s.endAll les) := by
  induction les using List.reverseRecOn with
  | nil => exact .refl s
  | append_singleton les le ih =>
    obtain ⟨hn, hle⟩ := nodup_of_append_singleton hn
    have hentry : (s.endAll les).entry le.1 le.2 = s.entry le.1 le.2 := by rw [State.entry_endAll, if_neg hle]
    rw [State.endAll_append, requestsOf_append]
    obtain hx | ⟨r, hr⟩ := (s.entry le.1 le.2).free_or_request
    · rw [State.endWithReply_free (hentry.trans hx), hx]
      simpa [Entry.request?] using ih hn
    · have hend := State.endWithReply_sameRecords (fate := .freed) (answer := fun _ => .refused .targetError)
        (s := s.endAll les) (by rw [hentry, hr])
      have hdrop : dropAll (((requestsOf s les) ++ (s.entry le.1 le.2).request?.toList).map (·.window)) s =
          (dropAll ((requestsOf s les).map (·.window)) s).dropRef r.window := by
        simp [dropAll, hr]
      rw [hdrop]
      exact ((ih hn).dropRef r.window).trans hend

theorem State.port_endAll (hn : les.Nodup) (m : LinkId) : (s.endAll les).port m =
    { s.port m with
      outData := (s.port m).outData ++
        (requestsOf s (les.filter fun le => decide (le.1 = m))).map fun r =>
          ⟨r.tag, r.stream, .refused .targetError⟩ } := by
  induction les using List.reverseRecOn with
  | nil => simp [State.endAll, requestsOf]
  | append_singleton les le ih =>
    obtain ⟨hn, hle⟩ := nodup_of_append_singleton hn
    have hentry : (s.endAll les).entry le.1 le.2 = s.entry le.1 le.2 := by rw [State.entry_endAll, if_neg hle]
    rw [State.endAll_append, List.filter_append]
    obtain hx | ⟨r, hr⟩ := (s.entry le.1 le.2).free_or_request
    · rw [State.endWithReply_free (hentry.trans hx), ih hn]
      by_cases hm : le.1 = m
      · subst hm
        simp [requestsOf_append, hx, Entry.request?]
      · simp [hm]
    · rw [State.port_endWithReply (by rw [hentry, hr])]
      by_cases hm : le.1 = m
      · subst hm
        rw [if_pos rfl, ih hn]
        simp [requestsOf_append, hr]
      · rw [if_neg hm, ih hn]
        simp [hm]

theorem State.waitList_endAll (hn : les.Nodup) (m : LinkId) : (s.endAll les).waitList m =
    (s.waitList m).filter fun f => decide (¬((m, f) ∈ les ∧ (s.entry m f).isWaiting = true)) := by
  induction les using List.reverseRecOn with
  | nil => simp [State.endAll]
  | append_singleton les le ih =>
    obtain ⟨hn, hle⟩ := nodup_of_append_singleton hn
    have hentry : (s.endAll les).entry le.1 le.2 = s.entry le.1 le.2 := by rw [State.entry_endAll, if_neg hle]
    rw [State.endAll_append, State.waitList_endWithReply, ih hn, List.filter_filter, hentry]
    refine List.filter_congr fun f _ => ?_
    by_cases hf : (m, f) = le
    · subst hf
      simp [hle]
    · simp [hf]

theorem State.tag_endAll (hn : les.Nodup) (g : TagNo) : (s.endAll les).tag g =
    if ∃ le ∈ les, (s.entry le.1 le.2).tag? = some g then .free else s.tag g := by
  induction les using List.reverseRecOn with
  | nil => simp [State.endAll]
  | append_singleton les le ih =>
    obtain ⟨hn, hle⟩ := nodup_of_append_singleton hn
    have hentry : (s.endAll les).entry le.1 le.2 = s.entry le.1 le.2 := by rw [State.entry_endAll, if_neg hle]
    rw [State.endAll_append, State.tag_endWithReply, ih hn, hentry]
    by_cases hg : (s.entry le.1 le.2).tag? = some g
    · rw [if_pos hg, if_pos ⟨le, by simp, hg⟩]
    · rw [if_neg hg]
      refine if_congr ⟨?_, ?_⟩ rfl rfl
      · rintro ⟨x, hx, hxg⟩
        exact ⟨x, List.mem_append_left _ hx, hxg⟩
      · rintro ⟨x, hx, hxg⟩
        rcases List.mem_append.1 hx with hx | hx
        · exact ⟨x, hx, hxg⟩
        · exact absurd (List.mem_singleton.1 hx ▸ hxg) hg

end

theorem State.fabric_endAll (les : List (LinkId × EntryNo)) (s : State) :
    (s.endAll les).fabric = { s.fabric with tags := (s.endAll les).fabric.tags } := by
  induction les using List.reverseRecOn with
  | nil => rfl
  | append_singleton les le ih =>
    rw [State.endAll_append, State.fabric_endWithReply, ih]

/-! ## The command -/

/-- Two states with the same fields are the same state. -/
theorem State.eq_of_fields {s t : State} (hw : s.windows = t.windows) (hd : s.domains = t.domains)
    (hb : s.bindings = t.bindings) (hp : s.ports = t.ports) (he : s.entries = t.entries) (hwt : s.waiting = t.waiting)
    (hf : s.fabric = t.fabric) (hen : s.engine = t.engine) (hm : s.mgmt = t.mgmt) (hev : s.events = t.events)
    (hs : s.sent = t.sent) (hfs : s.fabricSent = t.fabricSent) (hnow : s.now = t.now) (hpe : s.pending = t.pending) :
    s = t := by
  cases s
  cases t
  simp_all

theorem dropAll_keeps {α : Type} {read : State → α} (h : ∀ (t : State) (k : Handle), read (t.dropRef k) = read t)
    (hs : List Handle) (s : State) : read (dropAll hs s) = read s := by
  induction hs generalizing s with
  | nil => rfl
  | cons k rest ih => exact (ih (s.dropRef k)).trans (h s k)

/-- What the end of a list of entries leaves, with the waiting lists and the tags still to be read. -/
theorem State.endAll_eq {s : State} {les : List (LinkId × EntryNo)} (hn : les.Nodup) : s.endAll les =
    { dropAll ((requestsOf s les).map (·.window)) s with
      ports := targetErrors s les
      entries := freed s les
      waiting := (s.endAll les).waiting
      fabric := { s.fabric with tags := (s.endAll les).fabric.tags } } := by
  have hrec := State.endAll_sameRecords (s := s) hn
  refine State.eq_of_fields hrec.windows hrec.domains ?_ ?_ ?_ rfl (s.fabric_endAll les) ?_ ?_ hrec.events ?_ ?_ ?_ ?_
  · rw [State.endAll_keeps (read := State.bindings) (by simp), dropAll_keeps (read := State.bindings) (by simp)]
  · refine Vector.ext fun m hm => ?_
    rw [targetErrors, Vector.getElem_ofFn]
    exact State.port_endAll hn ⟨m, hm⟩
  · refine Vector.ext fun m hm => Vector.ext fun f hf => ?_
    rw [freed, Vector.getElem_ofFn, Vector.getElem_ofFn]
    exact s.entry_endAll les ⟨m, hm⟩ ⟨f, hf⟩
  · rw [State.endAll_keeps (read := State.engine) (by simp), dropAll_keeps (read := State.engine) (by simp)]
  · rw [State.endAll_keeps (read := State.mgmt) (by simp), dropAll_keeps (read := State.mgmt) (by simp)]
  · rw [State.endAll_keeps (read := State.sent) (by simp), dropAll_keeps (read := State.sent) (by simp)]
  · rw [State.endAll_keeps (read := State.fabricSent) (by simp), dropAll_keeps (read := State.fabricSent) (by simp)]
  · rw [State.endAll_keeps (read := State.now) (by simp), dropAll_keeps (read := State.now) (by simp)]
  · rw [State.endAll_keeps (read := State.pending) (by simp), dropAll_keeps (read := State.pending) (by simp)]

/-- The entries a target's going OFFLINE ends (R102). -/
theorem State.entriesTo_waiting (s : State) (t : TargetId) :
    s.entriesTo t Entry.isWaiting = entriesWith s fun _ _ y => waitingFor t y := by
  refine List.filter_congr fun le _ => ?_
  rw [← State.entry_eq]
  cases s.entry le.1 le.2 <;> simp [Entry.isWaiting, Entry.request?, waitingFor]

/-- The entries a target's return ends (R103). -/
theorem State.entriesTo_issued (s : State) (t : TargetId) :
    s.entriesTo t Entry.isIssued = entriesWith s fun _ _ y => issuedTo t y := by
  refine List.filter_congr fun le _ => ?_
  rw [← State.entry_eq]
  cases s.entry le.1 le.2 <;> simp [Entry.isIssued, Entry.request?, issuedTo]

theorem nodup_entriesWith (s : State) (p : LinkId → EntryNo → Entry → Bool) : (entriesWith s p).Nodup :=
  nodup_allEntries.filter _

/-- An entry that waits for a target, and an entry issued to it, by its form. -/
theorem waitingFor_iff (t : TargetId) (x : Entry) : waitingFor t x = true ↔ ∃ r, x = .waitTag r ∧ r.target = t := by
  cases x <;> simp [waitingFor]

theorem issuedTo_iff (t : TargetId) (x : Entry) :
    issuedTo t x = true ↔ ∃ r g dl, x = .issued r g dl ∧ r.target = t := by
  cases x <;> simp [issuedTo]

theorem mem_entriesWith {s : State} {p : LinkId → EntryNo → Entry → Bool} {le : LinkId × EntryNo} :
    le ∈ entriesWith s p ↔ p le.1 le.2 (s.entry le.1 le.2) = true := by
  simp [entriesWith, mem_allEntries, State.entry_eq]

/-- A target goes OFFLINE: its waiting entries leave their lists, and no tag changes (R102). -/
theorem State.targetOffline_eq (s : State) (x : TargetId) :
    let waits := entriesWith s fun _ _ y => waitingFor x y
    s.targetOffline x =
      { dropAll ((requestsOf s waits).map (·.window)) s with
        ports := targetErrors s waits
        entries := freed s waits
        waiting := stoppedWaiting s waits
        fabric := { s.fabric with targets := s.fabric.targets.set x .offline } } := by
  intro waits
  have hn : waits.Nodup := nodup_entriesWith s _
  have hwaits : ∀ le ∈ waits, ∃ r, s.entry le.1 le.2 = .waitTag r := fun le hle => by
    obtain ⟨r, hr, -⟩ := (waitingFor_iff x _).1 (mem_entriesWith.1 hle)
    exact ⟨r, hr⟩
  have hlists : (s.endAll waits).waiting = stoppedWaiting s waits := by
    refine Vector.ext fun m hm => ?_
    have hlist := State.waitList_endAll (s := s) hn ⟨m, hm⟩
    simp only [State.waitList_eq, Fin.getElem_fin] at hlist
    rw [hlist]
    simp only [stoppedWaiting, Vector.getElem_ofFn]
    refine List.filter_congr fun f _ => ?_
    by_cases hf : ((⟨m, hm⟩ : LinkId), f) ∈ waits
    · obtain ⟨r, hr⟩ := hwaits _ hf
      simp [hf, show s.entry ⟨m, hm⟩ f = .waitTag r from hr, Entry.isWaiting]
    · simp [hf]
  have htags : (s.endAll waits).fabric.tags = s.fabric.tags := by
    refine Vector.ext fun g hg => ?_
    have htag := State.tag_endAll (s := s) hn ⟨g, hg⟩
    rw [if_neg] at htag
    · exact htag
    · rintro ⟨le, hle, hg'⟩
      obtain ⟨r, hr⟩ := hwaits le hle
      simp [hr, Entry.tag?] at hg'
  rw [State.targetOffline, State.entriesTo_waiting, State.endAll_eq hn, hlists, htags]
  rfl

/-- A tag after a target's return: freed with its issued entry, or out of the quarantine (R103, R116). -/
theorem tagAfterReturn_eq {s : State} (htags : tagsHeldByIssued s) (x : TargetId) (g : TagNo) :
    let issues := entriesWith s fun _ _ y => issuedTo x y
    let ended := if ∃ le ∈ issues, (s.entry le.1 le.2).tag? = some g then TagCond.free else s.tag g
    (if ended = .quarantined x then TagCond.free else ended) =
      match s.fabric.tags[g] with
      | .free => .free
      | .held l e => if (l, e) ∈ issues then .free else .held l e
      | .quarantined y => if y = x then .free else .quarantined y := by
  intro issues ended
  obtain ⟨hheld, hissued⟩ := htags
  have hended : ∀ le ∈ issues, (s.entry le.1 le.2).tag? = some g → s.tag g = .held le.1 le.2 := by
    intro le hle hg
    obtain ⟨r, g', dl, hr, -⟩ := (issuedTo_iff x _).1 (mem_entriesWith.1 hle)
    obtain rfl : g' = g := by simpa [hr, Entry.tag?] using hg
    exact hissued _ _ _ _ _ hr
  have hkept : (∀ l e, s.tag g ≠ .held l e) → ended = s.tag g := fun hno =>
    if_neg fun ⟨le, hle, hg⟩ => hno _ _ (hended le hle hg)
  rw [← State.tag_eq]
  cases hc : s.tag g with
  | free => simp [hkept (by simp [hc]), hc]
  | quarantined y => simp [hkept (by simp [hc]), hc]
  | held l e =>
    obtain ⟨r, dl, hr⟩ := hheld g l e hc
    have hiff : (∃ le ∈ issues, (s.entry le.1 le.2).tag? = some g) ↔ (l, e) ∈ issues := by
      constructor
      · rintro ⟨le, hle, hg⟩
        have hsame := (hended le hle hg).symm.trans hc
        simp only [TagCond.held.injEq] at hsame
        obtain ⟨hl, he⟩ := hsame
        exact hl ▸ he ▸ hle
      · exact fun hle => ⟨(l, e), hle, by simp [hr, Entry.tag?]⟩
    by_cases hle : (l, e) ∈ issues
    · simp [ended, hiff, hle]
    · simp [ended, hiff, hle, hc]

theorem State.freeQuarantined_setTarget_eq (x : TargetId) (s : State) : (s.freeQuarantined x).setTarget x .online =
    { s with
      fabric := { s.fabric with
        tags := s.fabric.tags.map fun c => if c = .quarantined x then .free else c
        targets := s.fabric.targets.set x .online } } := rfl

/-- A target returns: the tags of its issued entries and its quarantined tags become free, and no waiting list changes
(R103, R116). -/
theorem State.targetReturn_eq {s : State} (htags : tagsHeldByIssued s) (x : TargetId) :
    let issues := entriesWith s fun _ _ y => issuedTo x y
    s.targetReturn x =
      { dropAll ((requestsOf s issues).map (·.window)) s with
        ports := targetErrors s issues
        entries := freed s issues
        fabric :=
          { s.fabric with
            targets := s.fabric.targets.set x .online
            tags := Vector.ofFn fun g =>
              match s.fabric.tags[g] with
              | .free => .free
              | .held l e => if (l, e) ∈ issues then .free else .held l e
              | .quarantined y => if y = x then .free else .quarantined y } } := by
  intro issues
  have hn : issues.Nodup := nodup_entriesWith s _
  have hissues : ∀ le ∈ issues, ∃ r g dl, s.entry le.1 le.2 = .issued r g dl := fun le hle => by
    obtain ⟨r, g, dl, hr, -⟩ := (issuedTo_iff x _).1 (mem_entriesWith.1 hle)
    exact ⟨r, g, dl, hr⟩
  have hlists : (s.endAll issues).waiting = (dropAll ((requestsOf s issues).map (·.window)) s).waiting := by
    rw [dropAll_keeps (read := State.waiting) (by simp)]
    refine Vector.ext fun m hm => ?_
    have hlist := State.waitList_endAll (s := s) hn ⟨m, hm⟩
    rw [List.filter_eq_self.2] at hlist
    · exact hlist
    · intro f _
      simp only [decide_eq_true_eq]
      rintro ⟨hf, hw⟩
      obtain ⟨r, g, dl, hr⟩ := hissues _ hf
      simp [show s.entry ⟨m, hm⟩ f = .issued r g dl from hr, Entry.isWaiting] at hw
  have hfreed : (s.endAll issues).fabric.tags.map (fun c => if c = .quarantined x then TagCond.free else c) =
      Vector.ofFn fun g => match s.fabric.tags[g] with
        | .free => .free
        | .held l e => if (l, e) ∈ issues then .free else .held l e
        | .quarantined y => if y = x then .free else .quarantined y := by
    refine Vector.ext fun g hg => ?_
    have htag : (s.endAll issues).fabric.tags[g] = _ := State.tag_endAll (s := s) hn ⟨g, hg⟩
    rw [Vector.getElem_map, Vector.getElem_ofFn, htag]
    exact tagAfterReturn_eq htags x ⟨g, hg⟩
  rw [State.targetReturn, State.entriesTo_issued, State.freeQuarantined_setTarget_eq, hfreed, State.endAll_eq hn, hlists]

/-! ## The result word and the four cases -/

theorem targetSetWord_eq (b : TargetState) (ended freedTags : Nat) : targetSetWord b ended freedTags =
    0#8 ++ BitVec.ofNat 8 freedTags ++ BitVec.ofNat 8 ended ++ 0#7 ++ BitVec.ofNat 1 b.num := by
  refine BitVec.eq_of_getLsbD_eq fun k hk => ?_
  simp only [targetSetWord, BitVec.getLsbD_or, getLsbD_fieldWord_ofNat, BitVec.getLsbD_append]
  interval_cases k <;> simp

theorem targetSetCheck_eq_none {a : Args} {x : TargetId} (hx : argField a 0 0 8 = x.val)
    (hs : argField a 0 8 2 ≤ 1) (s : State) : targetSetCheck a s = none :=
  if_neg (by omega)

/-- The cases of an accepted TARGET_SET by the target's state and the state asked for. -/
theorem targetSetEffect_eq {a : Args} {x : TargetId} (hx : argField a 0 0 8 = x.val) (s : State) :
    targetSetEffect a s =
      match s.fabric.targets[x], decide (argField a 0 8 2 = 1) with
      | .online, true => ⟨s, .ok, [targetSetWord .online 0 0]⟩
      | .offline, false => ⟨s, .ok, [targetSetWord .offline 0 0]⟩
      | .online, false => ⟨s.targetOffline x, .ok, [targetSetWord .online (s.entriesTo x Entry.isWaiting).length 0]⟩
      | .offline, true =>
        ⟨s.targetReturn x, .ok,
          [targetSetWord .offline (s.entriesTo x Entry.isIssued).length (s.quarantinedCount x)]⟩ := by
  simp only [targetSetEffect, ofNat_eq_of_val hx]
  rfl

/-- Settles O37: the case of TARGET_SET that the two states select, with what ends at the target. -/
theorem targetSetFourCases : Obligations.TargetSetFourCases := by
  intro s c ht
  refine ⟨fun hbad => takeCommand_refuses ht (if_pos hbad), fun x hx => ?_⟩
  have heffect := targetSetEffect_eq hx s
  refine ⟨fun hask hstate => ?_, fun hask hstate => ?_, fun hask hstate => ?_, fun hask hstate htags => ?_⟩ <;>
    refine takeCommand_effects ht (targetSetCheck_eq_none hx (by omega) s) (heffect.trans ?_) <;>
    simp only [hask, hstate, targetSetWord_eq]
  · rfl
  · rfl
  · rw [State.targetOffline_eq, State.entriesTo_waiting]
    rfl
  · rw [State.targetReturn_eq htags, State.entriesTo_issued]
    rfl

end Sys2Proof.Machine
end

section
/-! CERTIFICATES. The state after power-on reset: its values, and the laws, which all hold in it. -/

namespace Sys2Proof.Machine

open Sys2Proof.Spec

/-! ## The tables right after reset -/

@[simp] theorem State.window_reset (i : SlotId) : State.reset.window i = Window.cleared 0 := by
  simp [State.window_eq, State.reset]

@[simp] theorem State.domain_reset (d : DomId) : State.reset.domain d = Domain.unused := by
  simp [State.domain_eq, State.reset]

@[simp] theorem State.stream_reset (l : LinkId) (st : DataStream) : State.reset.stream l st = StreamEntry.initial := by
  simp [State.stream_eq, State.reset]

@[simp] theorem State.port_reset (l : LinkId) : State.reset.port l = LinkPort.initial false := by
  simp [State.port_eq, State.reset]

@[simp] theorem State.entry_reset (l : LinkId) (e : EntryNo) : State.reset.entry l e = .free := by
  simp [State.entry_eq, State.reset]

@[simp] theorem State.waitList_reset (l : LinkId) : State.reset.waitList l = [] := by
  simp [State.waitList_eq, State.reset]

@[simp] theorem State.tag_reset (t : TagNo) : State.reset.tag t = .free := by
  simp [State.tag_eq, State.reset, Fabric.initial]

theorem State.engine_reset : State.reset.engine = Engine.initial := rfl

theorem EventUnit.interrupt_initial : EventUnit.initial.interrupt = false := by decide

/-- Settles O4, table by table. -/
theorem resetStateValues : Obligations.ResetStateValues := by
  refine ⟨State.window_reset, State.domain_reset, State.stream_reset,
    fun l => ⟨State.port_reset l, State.waitList_reset l⟩, State.entry_reset, State.tag_reset, fun t => ?_, rfl, rfl, rfl, rfl, rfl, fun i => ?_, rfl, rfl, rfl, fun l => ?_,
    fun d => ?_, EventUnit.interrupt_initial, rfl, rfl, rfl, rfl⟩
  · simp [State.reset, Fabric.initial]
  · simp [State.reset, MgmtPort.initial]
  · simp [State.reset, EventUnit.initial]
  · simp [State.reset, EventUnit.initial]

/-! ## The laws right after reset -/

theorem geometryAligned_reset : geometryAligned State.reset := by
  constructor
  · exact fun i => by
      rw [State.window_reset]
      exact areaAligned_cleared 0
  · simp [Domain.unused]

theorem chainsSound_reset : chainsSound State.reset := by
  intro d
  have hself : State.reset.selfWindows d = [] := by simp [State.selfWindows, Domain.unused]
  simp [hself, Domain.unused, Window.cleared]

theorem referencesCounted_reset : referencesCounted State.reset := by
  refine ⟨fun i => ?_, fun l e r hr => ?_, fun i hi => ?_⟩
  · simp [Window.cleared, Entry.request?]
  · simp [Entry.request?] at hr
  · simp [Window.cleared] at hi

theorem timersAndSignals_reset : timersAndSignals State.reset := by
  intro l
  simp [LinkPort.initial]

theorem statusMatchesSlot_reset : statusMatchesSlot State.reset := by
  refine ⟨by decide, fun c hc => ?_, by decide, by decide⟩
  simp [State.reset, Engine.initial] at hc

/-- A law of UP links holds after reset, where every link is DOWN. -/
theorem port_reset_not_up (l : LinkId) : (State.reset.port l).state ≠ .up := by
  simp [LinkPort.initial]

/-- Settles O5: the tables are empty, so each law holds at once. -/
theorem lawsHoldAtReset : Obligations.LawsHoldAtReset := by
  refine ⟨?freeSlots, ?permissions, ?budgets, geometryAligned_reset, ?outOfService, ?faults, chainsSound_reset, ?fenced,
    referencesCounted_reset, ?tags, ?waiting, ?waiters, ?quiet, timersAndSignals_reset, ?dataCredits, ?ctlCredits,
    statusMatchesSlot_reset⟩
  case freeSlots => exact fun i _ => by simp [Window.cleared]
  case permissions => exact ⟨fun i => by rw [State.window_reset]; rfl, fun d => by rw [State.domain_reset]; rfl⟩
  case budgets => exact fun i => by simp [Window.cleared, budgetBounds]
  case outOfService => exact fun d _ => by simp [Domain.unused, StreamEntry.initial]
  case faults => exact fun d => by simp [Domain.unused]
  case fenced => exact fun d i hi => by simp [Domain.unused] at hi
  case tags => exact ⟨fun t l e h => by simp at h, fun t l e r dl h => by simp at h⟩
  case waiting => exact fun l => by simp [Entry.isWaiting]
  case waiters => exact fun l e r h => by simp at h
  case quiet => exact fun l _ => by simp [linkQuiet, LinkPort.initial, State.engine_reset, Engine.initial]
  case dataCredits => exact fun l h => absurd h (port_reset_not_up l)
  case ctlCredits => exact ⟨by decide, fun l h => absurd h (port_reset_not_up l)⟩

end Sys2Proof.Machine
end

section
/-! CERTIFICATES. The resets of the whole part: power-on reset and device reset. -/

namespace Sys2Proof.Machine

open Sys2Proof.Spec

/-! ## Links start again (R174) -/

/-- The port of a link that starts again at the time `now`. -/
def LinkPort.restarted (signal : Bool) (now : Nat) : LinkPort :=
  if signal = true then { LinkPort.initial true with state := .training, helloTimer := some (now + 1000) }
  else LinkPort.initial false

/-- The messages of a link that starts again. -/
def restartMessages (wasUp signal : Bool) (l : LinkId) : List (LinkId × List Byte) :=
  (if wasUp = true then [(l, linkResetBytes)] else []) ++ if signal = true then [(l, helloBytes)] else []

theorem State.send_hello (l : LinkId) (s : State) : s.send l .hello = sentOn l helloBytes s := rfl

theorem State.restartLink_eq (wasUp : LinkId → Bool) (l : LinkId) (s : State) : s.restartLink wasUp l =
    { s with
      ports := s.ports.set l (LinkPort.restarted (s.ports[l]).signal s.now)
      sent := s.sent ++ restartMessages (wasUp l) (s.ports[l]).signal l } := by
  have hfirst : (if wasUp l = true then s.send l .linkReset else s) =
      { s with sent := s.sent ++ if wasUp l = true then [(l, linkResetBytes)] else [] } := by
    split
    · rfl
    · rw [List.append_nil]
  simp only [State.restartLink, hfirst, State.enterDown, State.enterTraining, State.send_hello, sentOn, State.modPort,
    State.setPort, State.port_eq, restartMessages]
  cases hs : (s.ports[l]).signal with
  | false => simp [LinkPort.restarted, LinkPort.initial]
  | true => simp [LinkPort.restarted, LinkPort.initial, Config.helloPeriod]

/-- The links of a list start again one after another; none of them twice. -/
theorem State.foldl_restartLink_eq (wasUp : LinkId → Bool) {ls : List LinkId} (hn : ls.Nodup) (s : State) :
    ls.foldl (fun s l => s.restartLink wasUp l) s =
      { s with
        ports := Vector.ofFn fun l =>
          if l ∈ ls then LinkPort.restarted (s.ports[l]).signal s.now else s.ports[l]
        sent := s.sent ++ ls.flatMap fun l => restartMessages (wasUp l) (s.ports[l]).signal l } := by
  induction ls using List.reverseRecOn with
  | nil => simp
  | append_singleton ls l ih =>
    obtain ⟨hn, hl⟩ := nodup_of_append_singleton hn
    rw [List.foldl_append, ih hn, List.foldl_cons, List.foldl_nil, State.restartLink_eq]
    refine State.eq_of_fields rfl rfl rfl ?_ rfl rfl rfl rfl rfl rfl ?_ rfl rfl rfl
    · refine Vector.ext fun m hm => ?_
      by_cases hml : l.val = m
      · subst hml
        simp [hl]
      · have hne : (⟨m, hm⟩ : LinkId) ≠ l := fun h => hml (h ▸ rfl)
        simp [hml, hne]
    · simp [hl]

/-- All four links start again (R174). -/
theorem State.restartLinks_eq (wasUp : LinkId → Bool) (s : State) : s.restartLinks wasUp =
    { s with
      ports := Vector.ofFn fun l => LinkPort.restarted (s.ports[l]).signal s.now
      sent := s.sent ++ (List.finRange 4).flatMap fun l => restartMessages (wasUp l) (s.ports[l]).signal l } := by
  rw [State.restartLinks, State.foldl_restartLink_eq wasUp (List.nodup_finRange 4)]
  simp only [List.mem_finRange, if_true]

/-- Settles O6: the tables are those of power-on reset, and then each link starts again. -/
theorem powerOnResetClearsAll : Obligations.PowerOnResetClearsAll := by
  intro s
  exact congrArg Host.Outcome.next (s.powerOnTables.restartLinks_eq fun _ => false)

/-! ## Tags over a device reset (R108) -/

theorem State.tagAfterDeviceReset_free {s : State} {g : TagNo} (h : s.tag g = .free) :
    s.tagAfterDeviceReset g = .free := by
  simp only [State.tagAfterDeviceReset, h]

theorem State.tagAfterDeviceReset_quarantined {s : State} {g : TagNo} {x : TargetId} (h : s.tag g = .quarantined x) :
    s.tagAfterDeviceReset g = .quarantined x := by
  simp only [State.tagAfterDeviceReset, h]

theorem State.tagAfterDeviceReset_issued {s : State} {g : TagNo} {l : LinkId} {e : EntryNo} {r : EntryReq} {dl : Nat}
    (hg : s.tag g = .held l e) (he : s.entry l e = .issued r g dl) :
    s.tagAfterDeviceReset g = .quarantined r.target := by
  simp only [State.tagAfterDeviceReset, hg, he]

theorem State.deviceReset_eq (s : State) : s.deviceReset =
    { s.deviceResetTables with
      ports := Vector.ofFn fun l => LinkPort.restarted (s.ports[l]).signal s.now
      sent := s.sent ++ (List.finRange 4).flatMap fun l =>
        restartMessages (decide ((s.ports[l]).state = .up)) (s.ports[l]).signal l } :=
  s.deviceResetTables.restartLinks_eq _

theorem State.tag_deviceReset (s : State) (g : TagNo) : s.deviceReset.fabric.tags[g] = s.tagAfterDeviceReset g := by
  simp [State.deviceReset_eq, State.deviceResetTables]

/-- Settles O7: windows and tags by what the tables of a device reset keep, the links by their restart. -/
theorem deviceResetKeepsGenerationsAndQuarantine : Obligations.DeviceResetKeepsGenerationsAndQuarantine := by
  intro s htags
  obtain ⟨-, hissued⟩ := htags
  refine ⟨s.deviceReset, rfl, fun i => ?_, fun g hg => ?_, fun g x hg => ?_, fun g l e r dl he => ?_, ?_⟩
  · rw [State.deviceReset_eq]
    exact s.window_deviceResetTables i
  · rw [State.tag_deviceReset, State.tagAfterDeviceReset_free hg]
  · rw [State.tag_deviceReset, State.tagAfterDeviceReset_quarantined hg]
  · rw [State.tag_deviceReset, State.tagAfterDeviceReset_issued (hissued g l e r dl he) he]
  · rw [State.deviceReset_eq]
    refine ⟨rfl, rfl, fun x => ?_, rfl, rfl, rfl, rfl, rfl, rfl, rfl, fun l => ?_, ?_, rfl, rfl, rfl⟩
    · simp [State.deviceResetTables, Fabric.initial]
    · simp [LinkPort.restarted]
    · simp [restartMessages]

end Sys2Proof.Machine
end

section
/-! SUPPORT. What one event can do to the chains of the domains, to the domain records and to the bindings: the moves at
these tables, each with the guard under which the part makes it. A guard that follows from a law of the state before the
move stands behind that law, so that a law kept on its own does not need the others. -/

namespace Sys2Proof.Machine

/-! ## The places of the windows -/

/-- The window stands on the chain of domain `d` (R30). -/
abbrev Window.OnChain (w : Window) (d : DomId) : Prop := (w.state = .live ∨ w.state = .suspended) ∧ w.domain = d

/-- The window left the chain of domain `d` and still has references (R7). -/
abbrev Window.Drains (w : Window) (d : DomId) : Prop := w.state = .draining ∧ w.domain = d

/-- The two records take the same place in the tables, and cover the same area. -/
structure Window.SamePlace (w v : Window) : Prop where
  onChain : ∀ d, v.OnChain d ↔ w.OnChain d
  drains : ∀ d, v.Drains d ↔ w.Drains d
  owner : v.owner = w.owner
  rank : v.rank = w.rank
  base : v.base = w.base
  sizeExp : v.sizeExp = w.sizeExp

theorem Window.SamePlace.refl (w : Window) : w.SamePlace w := ⟨fun _ => .rfl, fun _ => .rfl, rfl, rfl, rfl, rfl⟩

/-- A record whose state changes only between LIVE and SUSPENDED keeps its place. -/
theorem Window.SamePlace.of_fields {w v : Window}
    (hstate : v.state = w.state ∨
      (v.state = .live ∨ v.state = .suspended) ∧ (w.state = .live ∨ w.state = .suspended))
    (hdomain : v.domain = w.domain) (howner : v.owner = w.owner) (hrank : v.rank = w.rank) (hbase : v.base = w.base)
    (hsize : v.sizeExp = w.sizeExp) : w.SamePlace v := by
  refine ⟨fun d => ?_, fun d => ?_, howner, hrank, hbase, hsize⟩ <;> rcases hstate with hs | ⟨hv, hw⟩
  · rw [Window.OnChain, hs, hdomain]
  · simp only [Window.OnChain, hdomain, hv, hw]
  · rw [Window.Drains, hs, hdomain]
  · have hnot : ∀ {u : Window}, u.state = .live ∨ u.state = .suspended → u.state ≠ .draining := by
      rintro u (hu | hu) <;> simp [hu]
    simp only [Window.Drains, hnot hv, hnot hw, false_and]

/-! ## The chain laws of one domain -/

/-- The chain laws of R30, R37 and R27 for one domain, with the UNUSED record read as far as its chain. -/
structure ChainLaw (s : State) (d : DomId) : Prop where
  members : ∀ i, i ∈ (s.domain d).chain ↔ (s.window i).OnChain d
  ordered : (s.domain d).chain.Pairwise fun i j => (s.window i).rank < (s.window j).rank
  ranks : ∀ i ∈ (s.domain d).chain,
    ((s.window i).owner = .management → (s.window i).rank ≤ 127) ∧
    ((s.window i).owner = .self → 128 ≤ (s.window i).rank ∧ (s.window i).rank ≤ 255)
  selfs : (s.domain d).selfCount = (s.domain d).chain.countP fun i => decide ((s.window i).owner = .self)
  allowance : (s.domain d).selfCount ≤ (s.domain d).selfAllowance ∧ (s.domain d).selfAllowance ≤ 16
  draining : (s.domain d).drainingCount = (List.finRange 128).countP fun i => decide ((s.window i).Drains d)
  empty : (s.domain d).state = .unused ∨ (s.domain d).state = .purging → (s.domain d).chain = []

/-- An UNUSED domain holds the values of R28. -/
def unusedIsBlank (s : State) : Prop := ∀ d, (s.domain d).state = .unused → s.domain d = Domain.unused

theorem chainsSound_iff (s : State) : chainsSound s ↔ (∀ d, ChainLaw s d) ∧ unusedIsBlank s := by
  have hselfs : ∀ d, (s.selfWindows d).length =
      (s.domain d).chain.countP fun i => decide ((s.window i).owner = .self) := fun d =>
    List.countP_eq_length_filter.symm
  constructor
  · intro h
    refine ⟨fun d => ?_, fun d => ?_⟩ <;>
      obtain ⟨hmem, hord, hranks, hself, hle, hmax, hdrain, hunused, hpurging⟩ := h d
    · refine ⟨hmem, hord, hranks, hself.trans (hselfs d), ⟨hle, hmax⟩, hdrain, fun hs => hs.elim (fun hu => ?_) hpurging⟩
      rw [hunused hu]
      rfl
    · exact hunused
  · rintro ⟨h, hunused⟩ d
    obtain ⟨hmem, hord, hranks, hself, ⟨hle, hmax⟩, hdrain, hempty⟩ := h d
    exact ⟨hmem, hord, hranks, hself.trans (hselfs d).symm, hle, hmax, hdrain, hunused d, fun hp => hempty (.inr hp)⟩

theorem Domain.inService_eq_false {x : Domain} : x.inService = false ↔ x.state = .unused ∨ x.state = .purging := by
  unfold Domain.inService
  cases x.state <;> simp

theorem ChainLaw.nodup {s : State} {d : DomId} (h : ChainLaw s d) : (s.domain d).chain.Nodup :=
  h.ordered.imp fun hlt heq => by rw [heq] at hlt; exact lt_irrefl _ hlt

/-- A domain with a window on its chain is in service. -/
theorem ChainLaw.inService {s : State} {d : DomId} (h : ChainLaw s d) {i : SlotId} (hi : i ∈ (s.domain d).chain) :
    (s.domain d).inService = true := by
  by_contra hs
  rw [h.empty (Domain.inService_eq_false.1 (by simpa using hs))] at hi
  cases hi

/-! ## The moves -/

/-- The fault record of a domain as R33 and R34 bound it. -/
def Domain.FaultsOk (x : Domain) : Prop :=
  x.faultCount ≤ 255 ∧ (x.haltCause ≠ none → x.state = .halted ∨ x.state = .purging)

/-- The area of the window lies within the fence of the domain (R36). -/
def Domain.Fences (x : Domain) (w : Window) : Prop :=
  ∃ f, x.fence = some f ∧ f.contains w.base.toNat w.sizeExp = true

/-- What a command or a fault may make of the record of domain `d` while its chain stays (R33, R34, R39 to R46). -/
structure State.Governs (s : State) (d : DomId) (y : Domain) : Prop where
  chain : y.chain = (s.domain d).chain
  selfCount : y.selfCount = (s.domain d).selfCount
  drainingCount : y.drainingCount = (s.domain d).drainingCount
  state : y.inService = true ∨
    y.state = (s.domain d).state ∧ (outOfServiceIsEmpty s → (s.domain d).inService = true)
  allowance : ChainLaw s d → (s.domain d).selfCount ≤ y.selfAllowance ∧ y.selfAllowance ≤ 16
  fence : ChainLaw s d → ∀ i ∈ (s.domain d).chain, (s.window i).owner = .self →
    (s.domain d).Fences (s.window i) → y.Fences (s.window i)
  faults : (s.domain d).FaultsOk → y.FaultsOk

/-- Slot `i` may be filled with the window `w` and join the chain of domain `d` (R14, R146, R147). -/
structure State.Installs (s : State) (d : DomId) (i : SlotId) (w : Window) : Prop where
  free : (s.window i).state = .free
  service : (s.domain d).inService = true
  onChain : w.OnChain d
  newRank : ChainLaw s d → s.rankHeld d w.rank = false
  ranks : (w.owner = .management → w.rank ≤ 127) ∧ (w.owner = .self → 128 ≤ w.rank ∧ w.rank ≤ 255)
  allowance : w.owner = .self → (s.domain d).selfCount ≠ (s.domain d).selfAllowance
  fence : w.owner = .self → (s.domain d).Fences w

/-- Slot `i` is filled with `w` and joins the chain of domain `d` (R15, R147). -/
def State.installed (d : DomId) (i : SlotId) (w : Window) (s : State) : State :=
  (s.fillSlot i w).modDomain d fun x =>
    { x with
      chain := insertByRank (s.fillSlot i w).windows i w.rank x.chain
      selfCount := if w.owner = .self then x.selfCount + 1 else x.selfCount }

/-- Slot `i` is filled with `w` and takes the place of slot `old` on the chain of domain `d` (R17). -/
def State.replaced (d : DomId) (old i : SlotId) (w : Window) (s : State) : State :=
  ((s.fillSlot i w).modDomain d fun x =>
    { x with chain := x.chain.map fun j => if j = old then i else j }).removeWindow d old

/-- Slot `i` may be filled with `w` at the place of the window in slot `old` (R16, R17). -/
structure State.Replaces (s : State) (d : DomId) (old i : SlotId) (w : Window) : Prop where
  free : (s.window i).state = .free
  onChain : w.OnChain d
  rank : w.rank = (s.window old).rank
  owner : w.owner = .management
  place : ChainLaw s d → (s.window old).OnChain d
  oldOwner : (s.window old).owner = .management

/-- One move at the chains, the domain records and the bindings. -/
inductive ChainMove (s : State) : State → Prop
  /-- no window changes its place, and a stream is newly bound only to a domain in service (R79) -/
  | stays {t : State} (hd : t.domains = s.domains) (hw : ∀ i, (s.window i).SamePlace (t.window i))
      (hb : ∀ l st d, (t.stream l st).bound = some d →
        (s.stream l st).bound = some d ∨ (s.domain d).inService = true) : ChainMove s t
  /-- a domain record changes beside its chain -/
  | governs {d : DomId} {y : Domain} (h : s.Governs d y) : ChainMove s (s.setDomain d y)
  /-- a window joins a chain -/
  | installs {d : DomId} {i : SlotId} {w : Window} (h : s.Installs d i w) : ChainMove s (s.installed d i w)
  /-- a window takes another's place -/
  | replaces {d : DomId} {old i : SlotId} {w : Window} (h : s.Replaces d old i w) : ChainMove s (s.replaced d old i w)
  /-- a window leaves its chain (R7) -/
  | removes {d : DomId} {i : SlotId} (h : ChainLaw s d → i ∈ (s.domain d).chain) : ChainMove s (s.removeWindow d i)
  /-- a DRAINING window frees (R9) -/
  | frees {i : SlotId} (h : (s.window i).state = .draining) :
      ChainMove s ((s.clearSlot i).noteFreed (s.window i).domain)
  /-- a domain loses every window and every binding, and ends or waits for its drain (R47) -/
  | purges {t : State} {d : DomId} (hw : t.windows = (s.removeAll d).windows)
      (hb : ∀ l st e, (t.stream l st).bound = some e ↔ (s.stream l st).bound = some e ∧ e ≠ d)
      (hd : ∀ e, t.domain e =
        if d = e then
          (if ((s.removeAll d).domain d).drainingCount = 0 then Domain.unused
           else { (s.removeAll d).domain d with state := .purging })
        else s.domain e) : ChainMove s t
  /-- the tables are reset (R26, R52, R85) -/
  | restarts {t : State} (hw : ∀ i, ∃ g, t.window i = Window.cleared g) (hd : ∀ d, t.domain d = Domain.unused)
      (hb : ∀ l st, (t.stream l st).bound = none) : ChainMove s t

/-- A sequence of moves at the chains. -/
abbrev ChainMoves : State → State → Prop := Relation.ReflTransGen ChainMove

end Sys2Proof.Machine
end

section
/-! SUPPORT. The chain laws of R30, R37 and R27, kept by every move at the chains. -/

namespace Sys2Proof.Machine

/-! ## Lists and counts -/

/-- A count over all slots rises by one when one more slot is counted. -/
theorem countP_finRange_add_one {n : Nat} {p q : Fin n → Bool} {i : Fin n} (hp : p i = false) (hq : q i = true)
    (hother : ∀ j, i ≠ j → q j = p j) : (List.finRange n).countP q = (List.finRange n).countP p + 1 := by
  have hperm := List.perm_cons_erase (List.mem_finRange i)
  have hrest : ((List.finRange n).erase i).countP q = ((List.finRange n).erase i).countP p :=
    List.countP_congr fun j hj => by
      rw [hother j ((List.Nodup.mem_erase_iff (List.nodup_finRange n)).1 hj).1.symm]
  simp [hperm.countP_eq, hrest, hp, hq]

theorem insertByRank_perm (ws : Vector Window 128) (i : SlotId) (r : Nat) (chain : List SlotId) :
    (insertByRank ws i r chain).Perm (i :: chain) := by
  induction chain with
  | nil => exact .refl _
  | cons a rest ih =>
    simp only [insertByRank]
    split
    · exact .refl _
    · exact (ih.cons a).trans (.swap i a rest)

/-- A slot of a rank that no window of the chain has keeps the chain ordered (R31). -/
theorem insertByRank_ordered {ws : Vector Window 128} {i : SlotId} {chain : List SlotId}
    (hord : chain.Pairwise fun j k => (ws[j]).rank < (ws[k]).rank) (hnew : ∀ j ∈ chain, (ws[j]).rank ≠ (ws[i]).rank) :
    (insertByRank ws i (ws[i]).rank chain).Pairwise fun j k => (ws[j]).rank < (ws[k]).rank := by
  induction chain with
  | nil => exact List.pairwise_singleton _ _
  | cons a rest ih =>
    obtain ⟨ha, hrest⟩ := List.pairwise_cons.1 hord
    obtain ⟨hne, hnew⟩ := List.forall_mem_cons.1 hnew
    simp only [insertByRank]
    split
    · next hlt =>
      refine List.pairwise_cons.2 ⟨fun j hj => ?_, hord⟩
      rcases List.mem_cons.1 hj with rfl | hj
      · exact hlt
      · exact hlt.trans (ha j hj)
    · next hle =>
      refine List.pairwise_cons.2 ⟨fun j hj => ?_, ih hrest hnew⟩
      rcases (mem_insertByRank ..).1 hj with rfl | hj
      · exact lt_of_le_of_ne (not_lt.1 hle) hne
      · exact ha j hj

/-! ## A domain whose windows keep their places -/

/-- The window is neither on the chain of domain `d` nor drains for it. -/
def Window.Outside (w : Window) (d : DomId) : Prop := ¬w.OnChain d ∧ ¬w.Drains d

theorem Window.outside_of_free {w : Window} (h : w.state = .free) (d : DomId) : w.Outside d := by
  simp [Window.Outside, Window.OnChain, Window.Drains, h]

theorem Window.outside_of_domain {w : Window} {d : DomId} (h : w.domain ≠ d) : w.Outside d :=
  ⟨fun hw => h hw.2, fun hw => h hw.2⟩

/-- The windows of `t` stand on the chain of domain `d` as those of `s` do. -/
structure SameChain (s t : State) (d : DomId) : Prop where
  onChain : ∀ i, (t.window i).OnChain d ↔ (s.window i).OnChain d
  rank : ∀ i, (s.window i).OnChain d → (t.window i).rank = (s.window i).rank
  owner : ∀ i, (s.window i).OnChain d → (t.window i).owner = (s.window i).owner

/-- The windows of `t` take the places in domain `d` that those of `s` take. -/
structure SamePlaces (s t : State) (d : DomId) : Prop extends SameChain s t d where
  drains : ∀ i, (t.window i).Drains d ↔ (s.window i).Drains d

theorem SamePlaces.of_windows {s t : State} (h : ∀ i, (s.window i).SamePlace (t.window i)) (d : DomId) :
    SamePlaces s t d :=
  ⟨⟨fun i => (h i).onChain d, fun i _ => (h i).rank, fun i _ => (h i).owner⟩, fun i => (h i).drains d⟩

theorem SamePlaces.of_eq {s t : State} (h : t.windows = s.windows) (d : DomId) : SamePlaces s t d :=
  .of_windows (fun i => by rw [State.window_eq, State.window_eq, h]; exact .refl _) d

/-- A slot that stays off a chain leaves that chain. -/
theorem SameChain.of_not_onChain {s t : State} {d : DomId} {i : SlotId}
    (hother : ∀ j, i ≠ j → t.window j = s.window j) (hs : ¬(s.window i).OnChain d) (ht : ¬(t.window i).OnChain d) :
    SameChain s t d := by
  refine ⟨fun j => ?_, fun j hj => ?_, fun j hj => ?_⟩ <;> by_cases hij : i = j
  · exact hij ▸ iff_of_false ht hs
  · rw [hother j hij]
  · exact absurd (hij ▸ hj) hs
  · rw [hother j hij]
  · exact absurd (hij ▸ hj) hs
  · rw [hother j hij]

/-- A slot that stays outside a domain leaves the places in it. -/
theorem SamePlaces.of_outside {s t : State} {d : DomId} {i : SlotId} (hother : ∀ j, i ≠ j → t.window j = s.window j)
    (hs : (s.window i).Outside d) (ht : (t.window i).Outside d) : SamePlaces s t d := by
  refine ⟨.of_not_onChain hother hs.1 ht.1, fun j => ?_⟩
  by_cases hij : i = j
  · exact hij ▸ iff_of_false ht.2 hs.2
  · rw [hother j hij]

theorem SamePlaces.trans {s t u : State} {d : DomId} (h : SamePlaces s t d) (h' : SamePlaces t u d) : SamePlaces s u d :=
  ⟨⟨fun i => (h'.onChain i).trans (h.onChain i), fun i hi => (h'.rank i ((h.onChain i).2 hi)).trans (h.rank i hi),
    fun i hi => (h'.owner i ((h.onChain i).2 hi)).trans (h.owner i hi)⟩, fun i => (h'.drains i).trans (h.drains i)⟩

theorem SamePlaces.countP_drains {s t : State} {d : DomId} (h : SamePlaces s t d) :
    (List.finRange 128).countP (fun i => decide ((t.window i).Drains d)) =
      (List.finRange 128).countP fun i => decide ((s.window i).Drains d) :=
  List.countP_congr fun i _ => by simp only [h.drains i]

/-- A domain keeps its laws when its chain and the windows on it stay, and its other counts fit. -/
theorem ChainLaw.of_sameChain {s t : State} {d : DomId} (h : ChainLaw s d) (hp : SameChain s t d)
    (hchain : (t.domain d).chain = (s.domain d).chain) (hself : (t.domain d).selfCount = (s.domain d).selfCount)
    (hdrain : (t.domain d).drainingCount = (List.finRange 128).countP fun i => decide ((t.window i).Drains d))
    (hallow : (t.domain d).selfCount ≤ (t.domain d).selfAllowance ∧ (t.domain d).selfAllowance ≤ 16)
    (hempty : (t.domain d).state = .unused ∨ (t.domain d).state = .purging → (s.domain d).chain = []) :
    ChainLaw t d where
  members i := by rw [hchain, h.members, hp.onChain]
  ordered := by
    rw [hchain]
    refine h.ordered.imp_of_mem fun hi hj hlt => ?_
    rwa [hp.rank _ ((h.members _).1 hi), hp.rank _ ((h.members _).1 hj)]
  ranks i hi := by
    rw [hchain] at hi
    rw [hp.rank i ((h.members i).1 hi), hp.owner i ((h.members i).1 hi)]
    exact h.ranks i hi
  selfs := by
    rw [hchain, hself, h.selfs]
    exact List.countP_congr fun i hi => by rw [hp.owner i ((h.members i).1 hi)]
  allowance := hallow
  draining := hdrain
  empty hs := by rw [hchain, hempty hs]

/-- A domain whose record stays and whose windows keep their places keeps its laws. -/
theorem ChainLaw.of_domain_eq {s t : State} {d : DomId} (h : ChainLaw s d) (hp : SamePlaces s t d)
    (hd : t.domain d = s.domain d) : ChainLaw t d :=
  h.of_sameChain hp.toSameChain (by rw [hd]) (by rw [hd]) (by rw [hd, hp.countP_drains, h.draining])
    (by rw [hd]; exact h.allowance) (by rw [hd]; exact h.empty)

/-- An UNUSED domain without a window in its places meets the laws. -/
theorem ChainLaw.of_unused {s : State} {d : DomId} (hd : s.domain d = Domain.unused)
    (hw : ∀ i, (s.window i).Outside d) : ChainLaw s d := by
  have hcount : (List.finRange 128).countP (fun i => decide ((s.window i).Drains d)) = 0 :=
    List.countP_eq_zero.2 fun i _ => by simp [(hw i).2]
  refine ⟨fun i => ?_, ?_, ?_, ?_, ?_, ?_, ?_⟩ <;> rw [hd]
  · exact iff_of_false (by simp [Domain.unused]) (hw i).1
  · exact .nil
  · exact fun i hi => by cases hi
  · rfl
  · exact ⟨le_rfl, by simp [Domain.unused]⟩
  · exact hcount.symm
  · exact fun _ => rfl

/-! ## A window joins a chain -/

theorem State.window_installed (d : DomId) (i j : SlotId) (w : Window) (s : State) : (s.installed d i w).window j =
    if i = j then { w with generation := (s.window i).generation + 1 } else s.window j :=
  State.window_fillSlot i j w s

theorem State.domain_installed (d e : DomId) (i : SlotId) (w : Window) (s : State) : (s.installed d i w).domain e =
    if d = e then
      { s.domain d with
        chain := insertByRank (s.installed d i w).windows i w.rank (s.domain d).chain
        selfCount := if w.owner = .self then (s.domain d).selfCount + 1 else (s.domain d).selfCount }
    else s.domain e :=
  State.domain_modDomain d e _ (s.fillSlot i w)

/-- A FREE slot is on no chain under the laws. -/
theorem ChainLaw.free_not_mem {s : State} {d : DomId} (h : ChainLaw s d) {i : SlotId} (hi : (s.window i).state = .free) :
    i ∉ (s.domain d).chain := fun hmem => (Window.outside_of_free hi d).1 ((h.members i).1 hmem)

theorem State.Installs.keeps_chainLaw {s : State} {d : DomId} {i : SlotId} {w : Window} (h : s.Installs d i w)
    {e : DomId} (he : ChainLaw s e) : ChainLaw (s.installed d i w) e := by
  have hother : ∀ j, i ≠ j → (s.installed d i w).window j = s.window j := fun j hj => by
    rw [State.window_installed, if_neg hj]
  have hnew : (s.installed d i w).window i = { w with generation := (s.window i).generation + 1 } := by
    rw [State.window_installed, if_pos rfl]
  by_cases hde : d = e
  swap
  · refine he.of_domain_eq (.of_outside hother (Window.outside_of_free h.free e) ?_) ?_
    · exact Window.outside_of_domain (by rw [hnew]; exact h.onChain.2.trans_ne hde)
    · rw [State.domain_installed, if_neg hde]
  subst hde
  have hfree : i ∉ (s.domain d).chain := he.free_not_mem h.free
  have hsame : ∀ j ∈ (s.domain d).chain, (s.installed d i w).window j = s.window j := fun j hj =>
    hother j (by rintro rfl; exact hfree hj)
  have hrank : ((s.installed d i w).windows[i]).rank = w.rank := by rw [← State.window_eq, hnew]
  have hdom := State.domain_installed d d i w s
  rw [if_pos rfl] at hdom
  have hmem : ∀ j, j ∈ ((s.installed d i w).domain d).chain ↔ j = i ∨ j ∈ (s.domain d).chain := fun j => by
    rw [hdom]
    exact mem_insertByRank ..
  refine ⟨fun j => ?members, ?ordered, fun j hj => ?ranks, ?selfs, ?allowance, ?draining, ?empty⟩
  case members =>
    rw [hmem]
    by_cases hij : i = j
    · subst hij
      rw [hnew]
      exact iff_of_true (.inl rfl) h.onChain
    · rw [hother j hij, ← he.members]
      simp [Ne.symm hij]
  case ordered =>
    rw [hdom]
    dsimp only
    rw [← hrank]
    refine insertByRank_ordered (he.ordered.imp_of_mem fun {j k} hj hk hlt => ?_) fun j hj => ?_
    · rwa [← State.window_eq, ← State.window_eq, hsame j hj, hsame k hk]
    · rw [hrank, ← State.window_eq, hsame j hj]
      intro heq
      have hheld := (s.rankHeld_iff d w.rank).2 ⟨j, hj, heq⟩
      simp [h.newRank he] at hheld
  case ranks =>
    rcases (hmem j).1 hj with rfl | hj
    · rw [hnew]
      exact h.ranks
    · rw [hsame j hj]
      exact he.ranks j hj
  case selfs =>
    rw [hdom]
    dsimp only
    rw [(insertByRank_perm ..).countP_eq, List.countP_cons, hnew, he.selfs]
    have hrest : (s.domain d).chain.countP (fun j => decide (((s.installed d i w).window j).owner = .self)) =
        (s.domain d).chain.countP fun j => decide ((s.window j).owner = .self) :=
      List.countP_congr fun j hj => by rw [hsame j hj]
    rw [hrest]
    split <;> simp_all
  case allowance =>
    rw [hdom]
    dsimp only
    obtain ⟨hle, hmax⟩ := he.allowance
    refine ⟨?_, hmax⟩
    split
    · next hself => exact lt_of_le_of_ne hle (h.allowance hself)
    · exact hle
  case draining =>
    rw [hdom]
    dsimp only
    rw [he.draining]
    refine List.countP_congr fun j _ => ?_
    by_cases hij : i = j
    · subst hij
      have hlive : w.state ≠ .draining := by rcases h.onChain.1 with hw | hw <;> simp [hw]
      simp [hnew, h.free, hlive]
    · rw [hother j hij]
  case empty =>
    intro hout
    rw [hdom] at hout
    have hserv := h.service
    rw [(Domain.inService_eq_false (x := s.domain d)).2 hout] at hserv
    cases hserv

/-! ## A window leaves its chain -/

/-- A removed window is outside its domain's chain, and drains exactly when it still has references (R7). -/
theorem State.removeWindow_self (d : DomId) (i : SlotId) (s : State) : (s.removeWindow d i).window i =
    if (s.window i).refs = 0 then Window.cleared (s.window i).generation
    else { s.window i with state := .draining } := by
  rw [State.window_removeWindow, if_pos rfl]

theorem State.removeWindow_not_onChain (d e : DomId) (i : SlotId) (s : State) :
    ¬((s.removeWindow d i).window i).OnChain e := by
  rw [State.removeWindow_self]
  split <;> simp [Window.OnChain, Window.cleared]

theorem State.removeWindow_drains (d e : DomId) (i : SlotId) (s : State) :
    ((s.removeWindow d i).window i).Drains e ↔ (s.window i).refs ≠ 0 ∧ (s.window i).domain = e := by
  rw [State.removeWindow_self]
  split
  · next h => simp [Window.Drains, Window.cleared, h]
  · next h => simp [Window.Drains, h]

/-- The draining count of a domain from whose chain slot `i` is removed (R7). -/
theorem countP_drains_removeWindow {s : State} {d : DomId} {i : SlotId} (hi : (s.window i).OnChain d) :
    (List.finRange 128).countP (fun j => decide (((s.removeWindow d i).window j).Drains d)) =
      if (s.window i).refs = 0 then (List.finRange 128).countP fun j => decide ((s.window j).Drains d)
      else ((List.finRange 128).countP fun j => decide ((s.window j).Drains d)) + 1 := by
  have hother : ∀ j, i ≠ j → (s.removeWindow d i).window j = s.window j := fun j hj => by
    rw [State.window_removeWindow, if_neg hj]
  have hbefore : ¬(s.window i).Drains d := by
    rintro ⟨hd, -⟩
    rcases hi.1 with h | h <;> simp [h] at hd
  have hafter := State.removeWindow_drains d d i s
  split
  · next hrefs =>
    refine List.countP_congr fun j _ => ?_
    by_cases hij : i = j
    · subst hij
      simp only [hafter, hbefore, hrefs, ne_eq, not_true, false_and]
    · rw [hother j hij]
  · next hrefs =>
    refine countP_finRange_add_one (i := i) (decide_eq_false hbefore) (decide_eq_true (hafter.2 ⟨hrefs, hi.2⟩)) ?_
    exact fun j hij => by rw [hother j hij]

/-- The chain without one slot has one SELF window less if that slot's window is SELF. -/
theorem countP_filter_ne {s : State} {i : SlotId} {chain : List SlotId} (hn : chain.Nodup) (hi : i ∈ chain) :
    (chain.filter fun j => decide (j ≠ i)).countP (fun j => decide ((s.window j).owner = .self)) =
      if (s.window i).owner = .self then (chain.countP fun j => decide ((s.window j).owner = .self)) - 1
      else chain.countP fun j => decide ((s.window j).owner = .self) := by
  have herase : chain.filter (fun j => decide (j ≠ i)) = chain.erase i := by
    rw [hn.erase_eq_filter]
    exact List.filter_congr fun j _ => by by_cases hj : j = i <;> simp [hj]
  rw [herase, (List.perm_cons_erase hi).countP_eq, List.countP_cons]
  split <;> simp_all

theorem ChainLaw.removeWindow {s : State} {d : DomId} {i : SlotId} (hd : ChainLaw s d) (hmem : i ∈ (s.domain d).chain)
    {e : DomId} (he : ChainLaw s e) : ChainLaw (s.removeWindow d i) e := by
  have hi := (hd.members i).1 hmem
  have hother : ∀ j, i ≠ j → (s.removeWindow d i).window j = s.window j := fun j hj => by
    rw [State.window_removeWindow, if_neg hj]
  by_cases hde : d = e
  swap
  · refine he.of_domain_eq (.of_outside hother (Window.outside_of_domain (hi.2.trans_ne hde)) ?_) ?_
    · exact ⟨State.removeWindow_not_onChain d e i s, fun hdr =>
        hde (hi.2.symm.trans ((State.removeWindow_drains d e i s).1 hdr).2)⟩
    · rw [State.domain_removeWindow, if_neg hde]
  subst hde
  have hdom := State.domain_removeWindow d d i s
  rw [if_pos rfl] at hdom
  have hkept : ∀ j, j ∈ ((s.removeWindow d i).domain d).chain ↔ j ∈ (s.domain d).chain ∧ j ≠ i := fun j => by
    rw [hdom]
    simp only [List.mem_filter, decide_eq_true_eq]
  have hsame : ∀ j ∈ (s.domain d).chain.filter (fun j => decide (j ≠ i)),
      (s.removeWindow d i).window j = s.window j := fun j hj =>
    hother j (Ne.symm (of_decide_eq_true (List.mem_filter.1 hj).2))
  refine ⟨fun j => ?members, ?ordered, fun j hj => ?ranks, ?selfs, ?allowance, ?draining, ?empty⟩
  case members =>
    rw [hkept]
    by_cases hij : i = j
    · subst hij
      exact iff_of_false (fun h => h.2 rfl) (State.removeWindow_not_onChain d d i s)
    · rw [hother j hij, he.members]
      simp [Ne.symm hij]
  case ordered =>
    rw [hdom]
    refine (he.ordered.filter _).imp_of_mem fun {j k} hj hk hlt => ?_
    rwa [hsame j hj, hsame k hk]
  case ranks =>
    obtain ⟨hj, hne⟩ := (hkept j).1 hj
    rw [hother j hne.symm]
    exact he.ranks j hj
  case selfs =>
    rw [hdom]
    dsimp only
    rw [List.countP_congr (q := fun j => decide ((s.window j).owner = .self)) fun j hj => by rw [hsame j hj],
      countP_filter_ne hd.nodup hmem, he.selfs]
  case allowance =>
    rw [hdom]
    dsimp only
    obtain ⟨hle, hmax⟩ := he.allowance
    refine ⟨le_trans ?_ hle, hmax⟩
    split
    · exact Nat.sub_le _ _
    · exact le_rfl
  case draining =>
    rw [hdom, countP_drains_removeWindow hi]
    dsimp only
    rw [he.draining]
  case empty =>
    intro hout
    rw [hdom] at hout
    rw [he.empty hout] at hmem
    cases hmem

/-! ## All windows leave a chain (R47) -/

theorem removed_removed (w : Window) : Spec.removed (Spec.removed w) = Spec.removed w := by
  by_cases h : w.refs = 0
  · simp [Spec.removed, h, Window.cleared]
  · simp [Spec.removed, h]

theorem refs_removed_eq_zero_iff (w : Window) : (Spec.removed w).refs = 0 ↔ w.refs = 0 := by
  by_cases h : w.refs = 0 <;> simp [Spec.removed, h, Window.cleared]

/-- A removal leaves the record R7 gives in its slot. -/
theorem State.window_removeWindow_removed (d : DomId) (i j : SlotId) (s : State) :
    (s.removeWindow d i).window j = if i = j then Spec.removed (s.window j) else s.window j := by
  rw [State.window_removeWindow]
  split
  · next hij => rw [hij, Spec.removed]
  · rfl

/-- The slots of a list are removed one after another; a slot that comes twice is removed once. -/
theorem State.window_foldl_removeWindow (d : DomId) (is : List SlotId) (j : SlotId) (s : State) :
    (is.foldl (fun s i => s.removeWindow d i) s).window j =
      if j ∈ is then Spec.removed (s.window j) else s.window j := by
  induction is generalizing s with
  | nil => rfl
  | cons i rest ih =>
    rw [List.foldl_cons, ih, State.window_removeWindow_removed]
    by_cases hij : i = j
    · subst hij
      simp [removed_removed]
    · simp [hij, Ne.symm hij]

/-- The domain from whose chain the slots of a list are removed, but for its self count, and every other domain. -/
theorem State.domain_foldl_removeWindow (d e : DomId) (is : List SlotId) (s : State) :
    (is.foldl (fun s i => s.removeWindow d i) s).domain e =
      if d = e then
        { s.domain d with
          chain := (s.domain d).chain.filter fun j => decide (j ∉ is)
          selfCount := ((is.foldl (fun s i => s.removeWindow d i) s).domain d).selfCount
          drainingCount := (s.domain d).drainingCount + is.countP fun i => decide ((s.window i).refs ≠ 0) }
      else s.domain e := by
  induction is generalizing s with
  | nil =>
    split
    · next hde =>
      subst hde
      simp
    · rfl
  | cons i rest ih =>
    have hrefs : rest.countP (fun j => decide (((s.removeWindow d i).window j).refs ≠ 0)) =
        rest.countP fun j => decide ((s.window j).refs ≠ 0) := by
      refine List.countP_congr fun j _ => ?_
      rw [State.window_removeWindow_removed]
      split
      · simp [refs_removed_eq_zero_iff]
      · rfl
    have hdom := State.domain_removeWindow d e i s
    rw [List.foldl_cons, ih, hrefs]
    by_cases hde : d = e
    · subst hde
      rw [if_pos rfl] at hdom
      rw [if_pos rfl, if_pos rfl, hdom]
      simp only [List.filter_filter, List.countP_cons, Domain.mk.injEq, true_and]
      refine ⟨List.filter_congr fun j _ => by simp [Bool.and_comm], ?_⟩
      by_cases hr : (s.window i).refs = 0
      · simp [hr]
      · simp [hr]
        omega
    · rw [if_neg hde, if_neg hde, hdom, if_neg hde]

theorem State.window_removeAll (d : DomId) (j : SlotId) (s : State) : (s.removeAll d).window j =
    if j ∈ (s.domain d).chain then Spec.removed (s.window j) else s.window j :=
  State.window_foldl_removeWindow d _ j s

theorem State.domain_removeAll (d e : DomId) (s : State) : (s.removeAll d).domain e =
    if d = e then
      { s.domain d with
        chain := []
        selfCount := 0
        drainingCount := (s.domain d).drainingCount +
          (s.domain d).chain.countP fun i => decide ((s.window i).refs ≠ 0) }
    else s.domain e := by
  rw [State.removeAll, State.domain_modDomain]
  split
  · rw [State.domain_foldl_removeWindow, if_pos rfl]
  · next hde => rw [State.domain_foldl_removeWindow, if_neg hde]

/-- The laws hold after the slots of a list that stand on the chain, each once, are removed. -/
theorem chainLaw_foldl_removeWindow {d : DomId} {is : List SlotId} {s : State} (hs : ∀ e, ChainLaw s e)
    (hn : is.Nodup) (hmem : ∀ i ∈ is, i ∈ (s.domain d).chain) (e : DomId) :
    ChainLaw (is.foldl (fun s i => s.removeWindow d i) s) e := by
  induction is generalizing s with
  | nil => exact hs e
  | cons i rest ih =>
    obtain ⟨hi, hrest⟩ := List.nodup_cons.1 hn
    refine ih (fun e => (hs d).removeWindow (hmem i (by simp)) (hs e)) hrest fun j hj => ?_
    rw [State.domain_removeWindow, if_pos rfl]
    refine List.mem_filter.2 ⟨hmem j (List.mem_cons_of_mem i hj), decide_eq_true ?_⟩
    rintro rfl
    exact hi hj

theorem ChainLaw.removeAll {s : State} (hs : ∀ e, ChainLaw s e) (d e : DomId) : ChainLaw (s.removeAll d) e := by
  have hfold := chainLaw_foldl_removeWindow hs (hs d).nodup (fun _ => id) e (d := d)
  have hdom := State.domain_foldl_removeWindow d e (s.domain d).chain s
  have hall := State.domain_removeAll d e s
  by_cases hde : d = e
  · subst hde
    rw [if_pos rfl] at hdom hall
    have hchain : (((s.domain d).chain.foldl (fun s i => s.removeWindow d i) s).domain d).chain = [] := by
      rw [hdom]
      exact List.filter_eq_nil_iff.2 fun j hj => by simp [hj]
    have hplaces := SamePlaces.of_eq (s := (s.domain d).chain.foldl (fun s i => s.removeWindow d i) s)
      (t := s.removeAll d) rfl d
    refine hfold.of_sameChain hplaces.toSameChain ?_ ?_ ?_ ?_ ?_ <;> rw [hall]
    · exact hchain.symm
    · rw [hfold.selfs, hchain]
      rfl
    · rw [hplaces.countP_drains, ← hfold.draining, hdom]
    · exact ⟨Nat.zero_le _, (hs d).allowance.2⟩
    · exact fun _ => hchain
  · rw [if_neg hde] at hdom hall
    exact hfold.of_domain_eq (.of_eq (State.modDomain_windows ..) e) (hall.trans hdom.symm)

/-! ## A window takes another's place -/

/-- The record of the domain in which two slots are exchanged, and every other record. -/
theorem State.domain_replaced (d e : DomId) (old i : SlotId) (w : Window) (s : State) :
    (s.replaced d old i w).domain e =
      if d = e then
        { s.domain d with
          chain := ((s.domain d).chain.map fun j => if j = old then i else j).filter fun j => decide (j ≠ old)
          selfCount :=
            if ((s.fillSlot i w).window old).owner = .self then (s.domain d).selfCount - 1 else (s.domain d).selfCount
          drainingCount :=
            if ((s.fillSlot i w).window old).refs = 0 then (s.domain d).drainingCount
            else (s.domain d).drainingCount + 1 }
      else s.domain e := by
  rw [State.replaced, State.domain_removeWindow, State.domain_modDomain, State.domain_modDomain, if_pos rfl]
  split
  · rfl
  · rfl

section
variable {s : State} {d : DomId} {old i : SlotId} (hne : i ≠ old) (w : Window)
include hne

/-- What an exchange of two slots leaves in each slot. -/
theorem State.window_replaced (j : SlotId) : (s.replaced d old i w).window j =
    if old = j then
      (if (s.window old).refs = 0 then Window.cleared (s.window old).generation
       else { s.window old with state := .draining })
    else if i = j then { w with generation := (s.window i).generation + 1 } else s.window j := by
  rw [State.replaced, State.window_removeWindow, State.window_modDomain, State.window_modDomain, State.window_fillSlot,
    State.window_fillSlot, if_neg hne]

/-- On the exchanged chain the new slot stands where the old one stood. -/
theorem filter_map_exchange (chain : List SlotId) :
    (chain.map fun j => if j = old then i else j).filter (fun j => decide (j ≠ old)) =
      chain.map fun j => if j = old then i else j := by
  refine List.filter_eq_self.2 fun j hj => decide_eq_true ?_
  obtain ⟨k, -, rfl⟩ := List.mem_map.1 hj
  split
  · exact hne
  · next hk => exact hk

end

theorem State.Replaces.keeps_chainLaw {s : State} {d : DomId} {old i : SlotId} {w : Window} (h : s.Replaces d old i w)
    (hd : ChainLaw s d) {e : DomId} (he : ChainLaw s e) : ChainLaw (s.replaced d old i w) e := by
  have hold := h.place hd
  have hne : i ≠ old := by
    rintro rfl
    exact (Window.outside_of_free h.free d).1 hold
  have hwin := State.window_replaced (s := s) (d := d) hne w
  have hfilled : ∀ j, i ≠ j → (s.fillSlot i w).window j = s.window j := fun j hj => by
    rw [State.window_fillSlot, if_neg hj]
  have hfill : (s.fillSlot i w).window i = { w with generation := (s.window i).generation + 1 } := by
    rw [State.window_fillSlot, if_pos rfl]
  by_cases hde : d = e
  swap
  · have hmid : SamePlaces s (s.fillSlot i w) e := .of_outside hfilled (Window.outside_of_free h.free e)
      (Window.outside_of_domain (by rw [hfill]; exact h.onChain.2.trans_ne hde))
    refine he.of_domain_eq (hmid.trans (.of_outside (i := old) (fun j hj => ?_) ?_ ?_)) ?_
    · rw [hwin, if_neg hj, State.window_fillSlot]
    · rw [hfilled old hne]
      exact Window.outside_of_domain (hold.2.trans_ne hde)
    · rw [hwin, if_pos rfl]
      split
      · exact Window.outside_of_free rfl e
      · exact Window.outside_of_domain (hold.2.trans_ne hde)
    · rw [State.domain_replaced, if_neg hde]
  subst hde
  have hdom := State.domain_replaced d d old i w s
  rw [if_pos rfl, filter_map_exchange hne, hfilled old hne, if_neg (by simp [h.oldOwner])] at hdom
  have hmem : old ∈ (s.domain d).chain := (he.members old).2 hold
  have hfree : i ∉ (s.domain d).chain := he.free_not_mem h.free
  have hmoved : ∀ j ∈ (s.domain d).chain,
      ((s.replaced d old i w).window (if j = old then i else j)).rank = (s.window j).rank ∧
      ((s.replaced d old i w).window (if j = old then i else j)).owner = (s.window j).owner := by
    intro j hj
    split
    · next heq =>
      subst heq
      rw [hwin, if_neg (Ne.symm hne), if_pos rfl]
      exact ⟨h.rank, h.owner.trans h.oldOwner.symm⟩
    · next hjo =>
      have hij : i ≠ j := by
        rintro rfl
        exact hfree hj
      rw [hwin, if_neg (Ne.symm hjo), if_neg hij]
      exact ⟨rfl, rfl⟩
  refine ⟨fun j => ?members, ?ordered, fun j hj => ?ranks, ?selfs, ?allowance, ?draining, ?empty⟩
  case members =>
    rw [hdom, hwin]
    simp only [List.mem_map]
    by_cases hoj : old = j
    · subst hoj
      rw [if_pos rfl]
      refine iff_of_false ?_ (by split <;> simp [Window.OnChain, Window.cleared])
      rintro ⟨k, -, hk⟩
      split at hk
      · exact hne hk
      · next hko => exact hko hk
    · rw [if_neg hoj]
      by_cases hij : i = j
      · subst hij
        rw [if_pos rfl]
        exact iff_of_true ⟨old, hmem, if_pos rfl⟩ h.onChain
      · rw [if_neg hij, ← he.members]
        constructor
        · rintro ⟨k, hk, rfl⟩
          split at hij
          · exact absurd rfl hij
          · next hko => rwa [if_neg hko]
        · exact fun hj => ⟨j, hj, if_neg (Ne.symm hoj)⟩
  case ordered =>
    rw [hdom]
    refine List.pairwise_map.2 (he.ordered.imp_of_mem fun {j k} hj hk hlt => ?_)
    rwa [(hmoved j hj).1, (hmoved k hk).1]
  case ranks =>
    rw [hdom] at hj
    obtain ⟨k, hk, rfl⟩ := List.mem_map.1 hj
    rw [(hmoved k hk).1, (hmoved k hk).2]
    exact he.ranks k hk
  case selfs =>
    rw [hdom]
    dsimp only
    rw [List.countP_map, he.selfs]
    exact List.countP_congr fun j hj => by simp only [Function.comp, (hmoved j hj).2]
  case allowance =>
    rw [hdom]
    exact he.allowance
  case draining =>
    have hmid : (List.finRange 128).countP (fun j => decide (((s.fillSlot i w).window j).Drains d)) =
        (List.finRange 128).countP fun j => decide ((s.window j).Drains d) := by
      refine List.countP_congr fun j _ => ?_
      by_cases hij : i = j
      · subst hij
        have hlive : w.state ≠ .draining := by rcases h.onChain.1 with hw | hw <;> simp [hw]
        simp [hfill, h.free, hlive]
      · rw [hfilled j hij]
    have hcount := countP_drains_removeWindow (s := s.fillSlot i w) (d := d) (i := old) (by rwa [hfilled old hne])
    rw [hmid, hfilled old hne, ← he.draining] at hcount
    rw [hdom]
    refine hcount.symm.trans (List.countP_congr fun j _ => ?_)
    rw [hwin, State.window_removeWindow, hfilled old hne, State.window_fillSlot]
  case empty =>
    intro hout
    rw [hdom] at hout
    rw [he.empty hout] at hmem
    cases hmem

/-! ## A DRAINING window frees -/

/-- The record of the domain a freed window drained for, and every other record (R9, R49). -/
theorem State.domain_noteFreed (d e : DomId) (s : State) : (s.noteFreed d).domain e =
    if d = e then
      (if (s.domain d).state = .purging ∧ (s.domain d).drainingCount - 1 = 0 then Domain.unused
       else { s.domain d with drainingCount := (s.domain d).drainingCount - 1 })
    else s.domain e := by
  split_ifs with hde hlast
  · rw [State.noteFreed_last hlast, State.domain_raiseDom, State.domain_setDomain, if_pos hde]
  · rw [State.noteFreed_not_last hlast, State.domain_setDomain, if_pos hde]
  · by_cases hlast : (s.domain d).state = .purging ∧ (s.domain d).drainingCount - 1 = 0
    · rw [State.noteFreed_last hlast, State.domain_raiseDom, State.domain_setDomain, if_neg hde]
      rfl
    · rw [State.noteFreed_not_last hlast, State.domain_setDomain, if_neg hde]
      rfl

/-- A domain with an empty chain for which nothing drains has all windows outside it. -/
theorem ChainLaw.outside {s : State} {d : DomId} (h : ChainLaw s d) (hchain : (s.domain d).chain = [])
    {t : State} (hon : ∀ i, (t.window i).OnChain d → (s.window i).OnChain d)
    (hcount : (List.finRange 128).countP (fun i => decide ((t.window i).Drains d)) = 0) (i : SlotId) :
    (t.window i).Outside d := by
  refine ⟨fun hi => ?_, fun hi => ?_⟩
  · have hmem := (h.members i).2 (hon i hi)
    rw [hchain] at hmem
    cases hmem
  · exact List.countP_eq_zero.1 hcount i (List.mem_finRange i) (decide_eq_true hi)

theorem ChainLaw.windowFrees {s : State} {i : SlotId} (hi : (s.window i).state = .draining) {e : DomId}
    (he : ChainLaw s e) : ChainLaw ((s.clearSlot i).noteFreed (s.window i).domain) e := by
  have hwin : ∀ j, ((s.clearSlot i).noteFreed (s.window i).domain).window j = (s.clearSlot i).window j := fun j => by
    rw [State.window_eq, State.noteFreed_windows, State.window_eq]
  have hother : ∀ j, i ≠ j → ((s.clearSlot i).noteFreed (s.window i).domain).window j = s.window j := fun j hj => by
    rw [hwin, State.window_clearSlot, if_neg hj]
  have hclear : (((s.clearSlot i).noteFreed (s.window i).domain).window i).Outside e :=
    Window.outside_of_free (by rw [hwin, State.window_clearSlot, if_pos rfl]; rfl) e
  have hbefore : ¬(s.window i).OnChain e := by simp [Window.OnChain, hi]
  have hdom := State.domain_noteFreed (s.window i).domain e (s.clearSlot i)
  by_cases hde : (s.window i).domain = e
  swap
  · rw [if_neg hde] at hdom
    exact he.of_domain_eq (.of_outside hother (Window.outside_of_domain hde) hclear) hdom
  have hsame : SameChain s ((s.clearSlot i).noteFreed (s.window i).domain) e :=
    .of_not_onChain hother hbefore hclear.1
  have hcount := countP_finRange_add_one (i := i)
    (p := fun j => decide ((((s.clearSlot i).noteFreed (s.window i).domain).window j).Drains e))
    (q := fun j => decide ((s.window j).Drains e)) (decide_eq_false hclear.2) (decide_eq_true ⟨hi, hde⟩)
    fun j hj => by rw [hother j hj]
  rw [← he.draining] at hcount
  rw [if_pos hde, hde, show (s.clearSlot i).domain e = s.domain e from rfl] at hdom
  rw [hde] at hsame hcount ⊢
  split at hdom
  · next hlast =>
    refine .of_unused hdom (he.outside (he.empty (.inr hlast.1)) (fun j => (hsame.onChain j).1) ?_)
    rw [hcount] at hlast
    exact hlast.2
  · refine he.of_sameChain hsame ?_ ?_ ?_ ?_ ?_ <;> rw [hdom]
    · exact Nat.sub_eq_of_eq_add hcount
    · exact he.allowance
    · exact he.empty

/-! ## The laws over a move -/

theorem ChainMove.keeps_chainLaw {s t : State} (h : ChainMove s t) (hs : ∀ d, ChainLaw s d) (e : DomId) :
    ChainLaw t e := by
  cases h with
  | stays hd hw _ =>
    exact (hs e).of_domain_eq (.of_windows hw e) (by rw [State.domain_eq, State.domain_eq, hd])
  | @governs d y h =>
    have hdom := State.domain_setDomain d e y s
    by_cases hde : d = e
    · subst hde
      rw [if_pos rfl] at hdom
      refine (hs d).of_sameChain (SamePlaces.of_eq (State.setDomain_windows ..) d).toSameChain ?_ ?_ ?_ ?_ ?_ <;> rw [hdom]
      · exact h.chain
      · exact h.selfCount
      · exact h.drainingCount.trans (hs d).draining
      · rw [h.selfCount]
        exact h.allowance (hs d)
      · intro hout
        rcases h.state with hy | ⟨hy, -⟩
        · rw [Domain.inService_eq_false.2 hout] at hy
          cases hy
        · exact (hs d).empty (hy ▸ hout)
    · exact (hs e).of_domain_eq (.of_eq (State.setDomain_windows ..) e) (hdom.trans (if_neg hde))
  | installs h => exact h.keeps_chainLaw (hs e)
  | @replaces d _ _ _ h => exact h.keeps_chainLaw (hs d) (hs e)
  | @removes d _ h => exact (hs d).removeWindow (h (hs d)) (hs e)
  | frees h => exact (hs e).windowFrees h
  | @purges _ d hw _ hd =>
    have hall := ChainLaw.removeAll hs d
    have hrec := State.domain_removeAll d
    have hplaces : SamePlaces (s.removeAll d) t e := .of_eq hw e
    have hdom := hd e
    by_cases hde : d = e
    · subst hde
      have hchain : ((s.removeAll d).domain d).chain = [] := by rw [hrec, if_pos rfl]
      rw [if_pos rfl] at hdom
      split at hdom
      · next hzero =>
        refine .of_unused hdom ((hall d).outside hchain (fun i => (hplaces.onChain i).1) ?_)
        rw [hplaces.countP_drains, ← (hall d).draining, hzero]
      · refine (hall d).of_sameChain hplaces.toSameChain ?_ ?_ ?_ ?_ ?_ <;> rw [hdom]
        · exact (hall d).draining.trans hplaces.countP_drains.symm
        · exact (hall d).allowance
        · exact fun _ => hchain
    · rw [if_neg hde] at hdom
      exact (hall e).of_domain_eq hplaces (hdom.trans ((hrec e s).trans (if_neg hde)).symm)
  | restarts hw hd _ =>
    refine .of_unused (hd e) fun i => ?_
    obtain ⟨g, hg⟩ := hw i
    exact Window.outside_of_free (by rw [hg]; rfl) e

end Sys2Proof.Machine
end

section
/-! SUPPORT. The laws of the domain records and the fence law, kept by every move at the chains. -/

namespace Sys2Proof.Machine

theorem State.stream_of_bindings {s t : State} (h : t.bindings = s.bindings) (l : LinkId) (st : DataStream) :
    t.stream l st = s.stream l st := by rw [State.stream_eq, State.stream_eq, h]

theorem State.domain_of_domains {s t : State} (h : t.domains = s.domains) (d : DomId) : t.domain d = s.domain d := by
  rw [State.domain_eq, State.domain_eq, h]

/-- What a freed DRAINING window leaves of its domain's record, as far as it concerns a domain out of service. -/
theorem State.domain_windowFrees (d e : DomId) (i : SlotId) (s : State) : ((s.clearSlot i).noteFreed d).domain e =
    if d = e then
      (if (s.domain d).state = .purging ∧ (s.domain d).drainingCount - 1 = 0 then Domain.unused
       else { s.domain d with drainingCount := (s.domain d).drainingCount - 1 })
    else s.domain e := State.domain_noteFreed d e (s.clearSlot i)

/-! ## The fault record (R33, R34) -/

theorem Domain.faultsOk_unused : Domain.unused.FaultsOk := ⟨Nat.zero_le _, fun h => absurd rfl h⟩

theorem ChainMove.keeps_faultsConsistent {s t : State} (h : ChainMove s t) (hs : faultsConsistent s) :
    faultsConsistent t := by
  intro e
  have he : (s.domain e).FaultsOk := hs e
  change (t.domain e).FaultsOk
  cases h with
  | stays hd _ _ => rwa [State.domain_of_domains hd]
  | governs h =>
    rw [State.domain_setDomain]
    split
    · next hde => exact h.faults (hde ▸ he)
    · exact he
  | installs h =>
    rw [State.domain_installed]
    split
    · next hde => exact hde ▸ he
    · exact he
  | replaces h =>
    rw [State.domain_replaced]
    split
    · next hde => exact hde ▸ he
    · exact he
  | removes _ =>
    rw [State.domain_removeWindow]
    split
    · next hde => exact hde ▸ he
    · exact he
  | frees _ =>
    rw [State.domain_windowFrees]
    split
    · next hde =>
      split
      · exact Domain.faultsOk_unused
      · exact hde ▸ he
    · exact he
  | purges _ _ hd =>
    rw [hd]
    split
    · next hde =>
      split
      · exact Domain.faultsOk_unused
      · rw [State.domain_removeAll, if_pos rfl]
        exact ⟨(hde ▸ he).1, fun _ => .inr rfl⟩
    · exact he
  | restarts _ hd _ =>
    rw [hd]
    exact Domain.faultsOk_unused

/-! ## A domain out of service (R28, R47) -/

/-- The domain is UNUSED or PURGING. -/
abbrev Domain.Out (x : Domain) : Prop := x.state = .unused ∨ x.state = .purging

/-- A domain out of service in `t` that was out of service in `s`, and gained neither a window nor a binding. -/
theorem outOfService_of {s t : State} (hs : outOfServiceIsEmpty s) (hb : t.bindings = s.bindings) {e : DomId}
    (hd : (t.domain e).Out → (s.domain e).Out ∧ ((s.domain e).chain = [] → (t.domain e).chain = [])) :
    (t.domain e).Out → (t.domain e).chain = [] ∧ ∀ l st, (t.stream l st).bound ≠ some e := by
  intro hout
  obtain ⟨hout, hchain⟩ := hd hout
  obtain ⟨hempty, hbound⟩ := hs e hout
  exact ⟨hchain hempty, fun l st => by rw [State.stream_of_bindings hb]; exact hbound l st⟩

/-- A domain in service is not out of service. -/
theorem Domain.not_out {x : Domain} (h : x.inService = true) : ¬x.Out := fun hout => by
  rw [Domain.inService_eq_false.2 hout] at h
  cases h

/-- A domain out of service stays as far as its place in the tables when a command or a fault changes its record. -/
theorem State.Governs.not_out {s : State} {d : DomId} {y : Domain} (h : s.Governs d y) (hs : outOfServiceIsEmpty s) :
    ¬y.Out := by
  rcases h.state with hy | ⟨hy, hserv⟩
  · exact Domain.not_out hy
  · exact fun hout => Domain.not_out (hserv hs) (by rw [Domain.Out, ← hy]; exact hout)

theorem ChainMove.keeps_outOfServiceIsEmpty {s t : State} (h : ChainMove s t) (hs : outOfServiceIsEmpty s) :
    outOfServiceIsEmpty t := by
  intro e
  cases h with
  | stays hd _ hb =>
    rw [State.domain_of_domains hd]
    intro hout
    obtain ⟨hchain, hbound⟩ := hs e hout
    refine ⟨hchain, fun l st hst => ?_⟩
    rcases hb l st e hst with hst | hserv
    · exact hbound l st hst
    · exact Domain.not_out hserv hout
  | @governs d y h =>
    refine outOfService_of hs (by rfl) fun hout => ?_
    rw [State.domain_setDomain] at hout ⊢
    split at hout
    · exact absurd hout (h.not_out hs)
    · next hde => exact ⟨hout, fun hc => by rwa [if_neg hde]⟩
  | @installs d i w h =>
    refine outOfService_of hs (by rfl) fun hout => ?_
    rw [State.domain_installed] at hout ⊢
    split at hout
    · exact absurd hout (Domain.not_out h.service)
    · next hde => exact ⟨hout, fun hc => by rwa [if_neg hde]⟩
  | @replaces d old i w h =>
    refine outOfService_of hs (by simp [State.replaced]) fun hout => ?_
    rw [State.domain_replaced] at hout ⊢
    split at hout
    · next hde =>
      subst hde
      refine ⟨hout, fun hc => ?_⟩
      rw [if_pos rfl]
      dsimp only
      rw [hc]
      rfl
    · next hde => exact ⟨hout, fun hc => by rwa [if_neg hde]⟩
  | @removes d i _ =>
    refine outOfService_of hs (by simp) fun hout => ?_
    rw [State.domain_removeWindow] at hout ⊢
    split at hout
    · next hde =>
      subst hde
      refine ⟨hout, fun hc => ?_⟩
      rw [if_pos rfl]
      dsimp only
      rw [hc]
      rfl
    · next hde => exact ⟨hout, fun hc => by rwa [if_neg hde]⟩
  | @frees i _ =>
    refine outOfService_of hs (by simp) fun hout => ?_
    rw [State.domain_windowFrees] at hout ⊢
    split at hout
    · next hde =>
      subst hde
      rw [if_pos rfl]
      split at hout
      · next hlast => exact ⟨.inr hlast.1, fun _ => by rw [if_pos hlast]; rfl⟩
      · next hlast => exact ⟨hout, fun hc => by rwa [if_neg hlast]⟩
    · next hde => exact ⟨hout, fun hc => by rwa [if_neg hde]⟩
  | @purges _ d _ hb hd =>
    rw [hd]
    by_cases hde : d = e
    · subst hde
      rw [if_pos rfl, State.domain_removeAll, if_pos rfl]
      refine fun _ => ⟨by split <;> rfl, fun l st hst => ?_⟩
      exact ((hb l st d).1 hst).2 rfl
    · rw [if_neg hde]
      intro hout
      obtain ⟨hchain, hbound⟩ := hs e hout
      exact ⟨hchain, fun l st hst => hbound l st ((hb l st e).1 hst).1⟩
  | restarts _ hd hb =>
    rw [hd]
    exact fun _ => ⟨rfl, fun l st => by simp [hb l st]⟩

theorem ChainMove.keeps_unusedIsBlank {s t : State} (h : ChainMove s t) (hout : outOfServiceIsEmpty s)
    (hchains : ∀ d, ChainLaw s d) (hs : unusedIsBlank s) : unusedIsBlank t := by
  intro e he
  cases h with
  | stays hd _ _ =>
    rw [State.domain_of_domains hd] at he ⊢
    exact hs e he
  | @governs d y h =>
    rw [State.domain_setDomain] at he ⊢
    split at he
    · exact absurd (.inl he) (h.not_out hout)
    · next hde =>
      rw [if_neg hde]
      exact hs e he
  | @installs d i w h =>
    rw [State.domain_installed] at he ⊢
    split at he
    · exact absurd (.inl he) (Domain.not_out h.service)
    · next hde =>
      rw [if_neg hde]
      exact hs e he
  | @replaces d old i w h =>
    have hserv := (hchains d).inService (((hchains d).members old).2 (h.place (hchains d)))
    rw [State.domain_replaced] at he ⊢
    split at he
    · exact absurd (.inl he) (Domain.not_out hserv)
    · next hde =>
      rw [if_neg hde]
      exact hs e he
  | @removes d i h =>
    have hserv := (hchains d).inService (h (hchains d))
    rw [State.domain_removeWindow] at he ⊢
    split at he
    · exact absurd (.inl he) (Domain.not_out hserv)
    · next hde =>
      rw [if_neg hde]
      exact hs e he
  | @frees i _ =>
    rw [State.domain_windowFrees] at he ⊢
    split at he
    · next hde =>
      subst hde
      rw [if_pos rfl]
      split at he
      · next hlast => rw [if_pos hlast]
      · next hlast =>
        rw [if_neg hlast, hs _ he]
        rfl
    · next hde =>
      rw [if_neg hde]
      exact hs e he
  | @purges _ d _ _ hd =>
    rw [hd] at he ⊢
    split at he
    · next hde =>
      rw [if_pos hde]
      split at he
      · next hzero => rw [if_pos hzero]
      · cases he
    · next hde =>
      rw [if_neg hde]
      exact hs e he
  | restarts _ hd _ => exact hd e

/-! ## The fence (R36) -/

/-- A SELF window of `t` on a chain stood there in `s`, with the same area, under the same fence. -/
theorem fenced_of {s t : State} (hs : selfWindowsFenced s) {e : DomId} {j : SlotId} (hj : j ∈ (s.domain e).chain)
    (howner : (s.window j).owner = .self) (hfence : (t.domain e).fence = (s.domain e).fence)
    (hbase : (t.window j).base = (s.window j).base) (hsize : (t.window j).sizeExp = (s.window j).sizeExp) :
    (t.domain e).Fences (t.window j) := by
  obtain ⟨f, hf, hin⟩ := hs e j hj howner
  exact ⟨f, hfence.trans hf, by rwa [hbase, hsize]⟩

/-- A window that was removed and still shows as SELF has kept its area. -/
theorem removed_self {w : Window} (h : (Spec.removed w).owner = .self) :
    w.owner = .self ∧ (Spec.removed w).base = w.base ∧ (Spec.removed w).sizeExp = w.sizeExp := by
  by_cases hrefs : w.refs = 0
  · simp [Spec.removed, hrefs, Window.cleared] at h
  · simpa [Spec.removed, hrefs] using h

theorem State.window_removeWindow_self {s : State} {d : DomId} {i j : SlotId}
    (h : ((s.removeWindow d i).window j).owner = .self) : (s.window j).owner = .self ∧
      ((s.removeWindow d i).window j).base = (s.window j).base ∧
      ((s.removeWindow d i).window j).sizeExp = (s.window j).sizeExp := by
  rw [State.window_removeWindow_removed] at h ⊢
  split at h
  · next hij =>
    rw [if_pos hij]
    exact removed_self h
  · next hij =>
    rw [if_neg hij]
    exact ⟨h, rfl, rfl⟩

theorem ChainMove.keeps_selfWindowsFenced {s t : State} (h : ChainMove s t) (hchains : ∀ d, ChainLaw s d)
    (hs : selfWindowsFenced s) : selfWindowsFenced t := by
  intro e j hj hself
  change (t.domain e).Fences (t.window j)
  cases h with
  | stays hd hw _ =>
    rw [State.domain_of_domains hd] at hj
    exact fenced_of hs hj ((hw j).owner ▸ hself) (by rw [State.domain_of_domains hd]) (hw j).base (hw j).sizeExp
  | @governs d y h =>
    rw [State.domain_setDomain] at hj ⊢
    split at hj
    · next hde =>
      subst hde
      rw [if_pos rfl]
      rw [h.chain] at hj
      exact h.fence (hchains d) j hj hself (hs d j hj hself)
    · next hde =>
      rw [if_neg hde]
      exact hs e j hj hself
  | @installs d i w h =>
    rw [State.domain_installed] at hj
    have hwin := State.window_installed d i j w s
    by_cases hij : i = j
    · subst hij
      rw [if_pos rfl] at hwin
      rw [hwin] at hself ⊢
      split at hj
      · next hde =>
        subst hde
        rw [State.domain_installed, if_pos rfl]
        exact h.fence hself
      · exact absurd hj ((hchains e).free_not_mem h.free)
    · rw [if_neg hij] at hwin
      rw [hwin] at hself
      refine fenced_of hs ?_ hself ?_ (by rw [hwin]) (by rw [hwin])
      · split at hj
        · next hde => exact hde ▸ ((mem_insertByRank ..).1 hj).resolve_left (Ne.symm hij)
        · exact hj
      · rw [State.domain_installed]
        split
        · next hde => rw [hde]
        · rfl
  | @replaces d old i w h =>
    obtain ⟨hself, hbase, hsize⟩ := State.window_removeWindow_self hself
    rw [State.window_modDomain, State.window_fillSlot] at hself hbase hsize
    have hij : i ≠ j := by
      rintro rfl
      simp [h.owner] at hself
    rw [if_neg hij] at hself hbase hsize
    rw [State.domain_replaced] at hj
    refine fenced_of hs ?_ hself ?_ hbase hsize
    · split at hj
      · next hde =>
        obtain ⟨k, hk, hkj⟩ := List.mem_map.1 (List.mem_filter.1 hj).1
        split at hkj
        · exact absurd hkj hij
        · exact hde ▸ hkj ▸ hk
      · exact hj
    · rw [State.domain_replaced]
      split
      · next hde => rw [hde]
      · rfl
  | @removes d i _ =>
    obtain ⟨hself, hbase, hsize⟩ := State.window_removeWindow_self hself
    refine fenced_of hs ?_ hself ?_ hbase hsize <;> rw [State.domain_removeWindow] at *
    · split at hj
      · next hde => exact hde ▸ (List.mem_filter.1 hj).1
      · exact hj
    · split
      · next hde => rw [hde]
      · rfl
  | @frees i _ =>
    have hwin : ((s.clearSlot i).noteFreed (s.window i).domain).window j =
        if i = j then Window.cleared (s.window i).generation else s.window j := by
      rw [← State.window_clearSlot, State.window_eq, State.noteFreed_windows, State.window_eq]
    rw [hwin] at hself
    split at hself
    · cases hself
    · next hij =>
      rw [if_neg hij] at hwin
      have hdom := State.domain_windowFrees (s.window i).domain e i s
      split at hdom
      · next hde =>
        subst hde
        split at hdom <;> rw [hdom] at hj
        · cases hj
        · exact fenced_of hs hj hself (by rw [hdom]) (by rw [hwin]) (by rw [hwin])
      · rw [hdom] at hj
        exact fenced_of hs hj hself (by rw [hdom]) (by rw [hwin]) (by rw [hwin])
  | @purges _ d hw _ hd =>
    have hwin : t.window j = if j ∈ (s.domain d).chain then Spec.removed (s.window j) else s.window j := by
      rw [← State.window_removeAll, State.window_eq, State.window_eq, hw]
    rw [hd] at hj
    split at hj
    · rw [State.domain_removeAll, if_pos rfl] at hj
      split at hj <;> cases hj
    · next hde =>
      obtain ⟨hself, hbase, hsize⟩ : (s.window j).owner = .self ∧ (t.window j).base = (s.window j).base ∧
          (t.window j).sizeExp = (s.window j).sizeExp := by
        split at hwin
        · rw [hwin] at hself ⊢
          exact removed_self hself
        · exact hwin ▸ ⟨hself, rfl, rfl⟩
      exact fenced_of hs hj hself (by rw [hd, if_neg hde]) hbase hsize
  | restarts _ hd _ =>
    rw [hd] at hj
    cases hj

/-! ## The laws over a sequence of moves -/

/-- A law that every move keeps, in the states that meet `given`, is kept by a sequence of moves. -/
theorem ChainMoves.keep {given law : State → Prop} (hgiven : ∀ {s t}, ChainMove s t → given s → given t)
    (hlaw : ∀ {s t}, ChainMove s t → given s → law s → law t) {s t : State} (h : ChainMoves s t) (hg : given s)
    (hs : law s) : law t := by
  have hboth : given t ∧ law t := by
    induction h with
    | refl => exact ⟨hg, hs⟩
    | tail _ hlast ih => exact ⟨hgiven hlast ih.1, hlaw hlast ih.1 ih.2⟩
  exact hboth.2

theorem ChainMoves.keep_chainLaw {s t : State} (h : ChainMoves s t) (hs : ∀ d, ChainLaw s d) : ∀ d, ChainLaw t d :=
  h.keep (given := fun _ => True) (law := fun s => ∀ d, ChainLaw s d) (fun _ => id) (fun hm _ => hm.keeps_chainLaw)
    trivial hs

theorem ChainMoves.keep_outOfServiceIsEmpty {s t : State} (h : ChainMoves s t) (hs : outOfServiceIsEmpty s) :
    outOfServiceIsEmpty t :=
  h.keep (given := fun _ => True) (fun _ => id) (fun hm _ => hm.keeps_outOfServiceIsEmpty) trivial hs

theorem ChainMoves.keep_faultsConsistent {s t : State} (h : ChainMoves s t) (hs : faultsConsistent s) :
    faultsConsistent t :=
  h.keep (given := fun _ => True) (fun _ => id) (fun hm _ => hm.keeps_faultsConsistent) trivial hs

theorem ChainMoves.keep_selfWindowsFenced {s t : State} (h : ChainMoves s t) (hchains : ∀ d, ChainLaw s d)
    (hs : selfWindowsFenced s) : selfWindowsFenced t :=
  h.keep (given := fun s => ∀ d, ChainLaw s d) (fun hm hc => hm.keeps_chainLaw hc)
    (fun hm hc => hm.keeps_selfWindowsFenced hc) hchains hs

theorem ChainMoves.keep_chainsSound {s t : State} (h : ChainMoves s t) (hout : outOfServiceIsEmpty s)
    (hs : chainsSound s) : chainsSound t := by
  obtain ⟨hchains, hblank⟩ := (chainsSound_iff s).1 hs
  refine (chainsSound_iff t).2 ⟨h.keep_chainLaw hchains, ?_⟩
  exact h.keep (given := fun s => outOfServiceIsEmpty s ∧ ∀ d, ChainLaw s d)
    (fun hm hg => ⟨hm.keeps_outOfServiceIsEmpty hg.1, hm.keeps_chainLaw hg.2⟩)
    (fun hm hg => hm.keeps_unusedIsBlank hg.1 hg.2) ⟨hout, hchains⟩ hblank

end Sys2Proof.Machine
end

section
/-! SUPPORT. The moves at the chains that the shared operations and the commands make. -/

namespace Sys2Proof.Machine

/-! ## Sequences of moves -/

/-- The tables of a state: windows, domains and bindings stay. -/
theorem ChainMoves.of_tables {s t : State} (hw : t.windows = s.windows) (hd : t.domains = s.domains)
    (hb : t.bindings = s.bindings) : ChainMoves s t :=
  .single (.stays hd (fun i => by rw [State.window_eq, State.window_eq, hw]; exact .refl _)
    fun l st d h => .inl (by rwa [State.stream_of_bindings hb] at h))

/-- Moves that lead to a state lead to every state with the same windows, domains and bindings. -/
theorem ChainMoves.then_tables {s t u : State} (h : ChainMoves s t) (hw : u.windows = t.windows)
    (hd : u.domains = t.domains) (hb : u.bindings = t.bindings) : ChainMoves s u := h.trans (ChainMoves.of_tables hw hd hb)

theorem ChainMoves.foldl {α : Type} {f : State → α → State} (h : ∀ s a, ChainMoves s (f s a)) (as : List α)
    (s : State) : ChainMoves s (as.foldl f s) := by
  induction as generalizing s with
  | nil => exact .refl
  | cons a rest ih => exact (h s a).trans (ih _)

/-- An event that ends in one of two states makes the moves of each of them. -/
theorem ChainMoves.ite {p : Prop} [Decidable p] {s t u : State} (ht : ChainMoves s t) (hu : ChainMoves s u) :
    ChainMoves s (if p then t else u) := by
  split
  · exact ht
  · exact hu

/-- A record is changed at its place. -/
theorem ChainMoves.setWindow {s : State} {i : SlotId} {w : Window} (h : (s.window i).SamePlace w) :
    ChainMoves s (s.setWindow i w) := by
  refine .single (.stays rfl (fun j => ?_) fun _ _ _ hb => .inl hb)
  rw [State.window_setWindow]
  split
  · next hij => exact hij ▸ h
  · exact .refl _

/-- The domain record as a command or a fault changes it. -/
theorem ChainMoves.modDomain {s : State} {d : DomId} {f : Domain → Domain} (h : s.Governs d (f (s.domain d))) :
    ChainMoves s (s.modDomain d f) := .single (.governs h)

/-! ## The end of a tracker entry -/

theorem State.dropRef_chainMoves (h : Handle) (s : State) : ChainMoves s (s.dropRef h) := by
  by_cases hg : (s.window h.slot).generation = h.generation
  · by_cases hlast : (s.window h.slot).state = .draining ∧ (s.window h.slot).refs - 1 = 0
    · rw [State.dropRef_last hg hlast]
      exact .single (.frees hlast.1)
    · rw [State.dropRef_not_last hg hlast]
      exact ChainMoves.setWindow (.of_fields (.inl rfl) rfl rfl rfl rfl rfl)
  · rw [State.dropRef_stale hg]

theorem State.endEntry_chainMoves (fate : TagFate) (l : LinkId) (e : EntryNo) (s : State) :
    ChainMoves s (s.endEntry fate l e) := by
  obtain hx | ⟨r, hr⟩ := (s.entry l e).free_or_request
  · rw [State.endEntry_free hx]
  · obtain ⟨hw, hd, -⟩ := State.endEntry_sameRecords (fate := fate) hr
    exact (s.dropRef_chainMoves r.window).then_tables hw hd (by simp)

theorem State.endWithReply_chainMoves (fate : TagFate) (answer : EntryReq → DataAnswer) (l : LinkId) (e : EntryNo)
    (s : State) : ChainMoves s (s.endWithReply fate answer l e) := by
  unfold State.endWithReply
  split
  · exact .refl
  · exact (s.endEntry_chainMoves fate l e).then_tables rfl rfl rfl

theorem State.endAll_chainMoves (les : List (LinkId × EntryNo)) (s : State) : ChainMoves s (s.endAll les) := by
  unfold State.endAll
  exact ChainMoves.foldl (fun s le => s.endWithReply_chainMoves _ _ le.1 le.2) les s

/-! ## The links -/

theorem State.leaveUp_chainMoves (l : LinkId) (s : State) : ChainMoves s (s.leaveUp l) := by
  have hend : ChainMoves s (s.endLinkEntries l) :=
    (ChainMoves.foldl (f := fun s e => s.endEntry .quarantined l e) (fun s e => s.endEntry_chainMoves .quarantined l e)
      (List.finRange 8) s).then_tables (State.setWaiting_windows ..) (State.setWaiting_domains ..)
      (State.setWaiting_bindings ..)
  unfold State.leaveUp
  dsimp only
  split <;> exact hend.then_tables (by simp) (by simp) (by simp)

theorem State.enterDown_chainMoves (l : LinkId) (s : State) : ChainMoves s (s.enterDown l) :=
  .of_tables (by simp) (by simp) (by simp)

theorem State.partReset_chainMoves (l : LinkId) (s : State) : ChainMoves s (s.partReset l) :=
  (s.leaveUp_chainMoves l).then_tables (by simp [State.partReset]) (by simp [State.partReset]) (by simp [State.partReset])

theorem State.protocolError_chainMoves (l : LinkId) (c : ErrorCause) (s : State) :
    ChainMoves s (s.protocolError l c) :=
  (ChainMoves.of_tables (by rfl) (by rfl) (by rfl)).trans (State.partReset_chainMoves l _)

/-! ## The takings at the engine -/

theorem takeCommand_chainMoves {mine : BitVec 8 → Bool} {act : Args → State → Done} {s t : State}
    (hact : ∀ a, ChainMoves s (act a s).state) (h : takeCommand mine act s = .next t) : ChainMoves s t := by
  obtain rfl | ⟨c, -, -, -, rfl⟩ := takeCommand_cases h
  · exact .refl
  · exact (hact c.args).then_tables rfl rfl rfl

theorem takeControl_chainMoves {op : CtlOp} {act : CtlRequest → State → CtlDone} {s t : State}
    (hact : ∀ q, ChainMoves s (act q s).state) (h : takeControl op act s = .next t) : ChainMoves s t := by
  obtain rfl | ⟨q, rest, -, -, -, rfl⟩ := takeControl_cases h
  · exact .refl
  · exact (hact q).then_tables rfl rfl rfl

/-- A command with checks makes moves only when it passes them all. -/
theorem checked_chainMoves {check : Option ResultCode} {effect : Unit → Done} {s : State}
    (h : check = none → ChainMoves s (effect ()).state) : ChainMoves s (Done.checked check effect s).state := by
  cases check with
  | none => exact h rfl
  | some c => exact .refl

/-! ## Commands on windows -/

/-- What the checks of INSTALL leave when they pass, as far as the chain is concerned (R14). -/
theorem installCheck_eq_none_chain {a : Args} {s : State} (h : installCheck a s = none) :
    argField a 0 8 8 ≤ 127 ∧ (s.domain (Fin.ofNat 16 (argField a 0 0 8))).inService = true ∧
      s.rankHeld (Fin.ofNat 16 (argField a 0 0 8)) (argField a 0 8 8) = false := by
  unfold installCheck at h
  dsimp only at h
  split_ifs at h with hargs hserv _ hrank
  simp only [not_or, not_lt] at hargs
  exact ⟨hargs.2.1, by simpa using hserv, by simpa using hrank⟩

/-- An INSTALL with a free slot adds its window to the chain, and no SELF window (R15). -/
theorem installEffect_installed {a : Args} {s : State} {i : SlotId} (hi : s.lowestFree = some i) :
    (installEffect a s).state = s.installed (Fin.ofNat 16 (argField a 0 0 8)) i
      (specWindow a (Fin.ofNat 16 (argField a 0 0 8)) (argField a 0 8 8)
        (if argField a 0 16 2 = 0 then .live else .suspended) (argBudget a 6 7)) := by
  rw [installEffect_state hi]
  rfl

theorem installAct_chainMoves (a : Args) (s : State) : ChainMoves s (installAct a s).state := by
  refine checked_chainMoves fun hc => ?_
  obtain ⟨hrank, hserv, hnew⟩ := installCheck_eq_none_chain hc
  cases hi : s.lowestFree with
  | none => simpa only [installEffect, hi] using .refl
  | some i =>
    rw [installEffect_installed hi]
    refine .single (.installs ⟨((s.lowestFree_eq_some_iff i).1 hi).1, hserv, ⟨?_, rfl⟩, fun _ => hnew,
      ⟨fun _ => hrank, nofun⟩, nofun, nofun⟩)
    dsimp only [specWindow]
    split
    · exact .inl rfl
    · exact .inr rfl

/-- What the checks of REPLACE leave when they pass, as far as the chain is concerned (R16). -/
theorem replaceCheck_eq_none_chain {a : Args} {s : State} (h : replaceCheck a s = none) :
    ((s.window (slotOf (argHandle a 0))).state = .live ∨ (s.window (slotOf (argHandle a 0))).state = .suspended) ∧
      (s.window (slotOf (argHandle a 0))).owner = .management := by
  unfold replaceCheck at h
  split at h
  · cases h
  · obtain ⟨hfree, hnext⟩ := handleCheck_eq_none h
    split_ifs at hnext with hdrain hself
    revert hfree hdrain hself
    cases (s.window (slotOf (argHandle a 0))).state <;> cases (s.window (slotOf (argHandle a 0))).owner <;> simp

theorem replaceAct_chainMoves (a : Args) (s : State) : ChainMoves s (replaceAct a s).state := by
  refine checked_chainMoves fun hc => ?_
  obtain ⟨hstate, howner⟩ := replaceCheck_eq_none_chain hc
  cases hi : s.lowestFree with
  | none => simpa only [replaceEffect, hi] using .refl
  | some i =>
    rw [replaceEffect_state hi]
    exact .single (.replaces ⟨((s.lowestFree_eq_some_iff i).1 hi).1, ⟨.inl rfl, rfl⟩, rfl, rfl,
      fun _ => ⟨hstate, rfl⟩, howner⟩)

/-- A window in use that does not drain stands on its domain's chain. -/
theorem Window.onChain_of_ne {w : Window} (hfree : w.state ≠ .free) (hdrain : w.state ≠ .draining) :
    w.OnChain w.domain := by
  refine ⟨?_, rfl⟩
  revert hfree hdrain
  cases w.state <;> simp

/-- A window that stands on its domain's chain is removed (R7). -/
theorem State.removeWindow_chainMoves {s : State} {i : SlotId} (hfree : (s.window i).state ≠ .free)
    (hdrain : (s.window i).state ≠ .draining) : ChainMoves s (s.removeWindow (s.window i).domain i) :=
  .single (.removes fun hd => (hd.members i).2 (Window.onChain_of_ne hfree hdrain))

theorem retireAct_chainMoves (a : Args) (s : State) : ChainMoves s (retireAct a s).state := by
  refine checked_chainMoves fun hc => ?_
  obtain ⟨hfree, hnext⟩ := handleCheck_eq_none hc
  have hdrain : (s.window (slotOf (argHandle a 0))).state ≠ .draining := by
    intro h
    simp [h] at hnext
  exact (State.removeWindow_chainMoves hfree hdrain).then_tables (State.noticeIfSelf_windows ..)
    (State.noticeIfSelf_domains ..) (State.noticeIfSelf_bindings ..)

/-- A window changes between LIVE and SUSPENDED (R21, R22). -/
theorem setState_chainMoves {s : State} {i : SlotId} {st : WindowState} (hst : st = .live ∨ st = .suspended)
    (hw : (s.window i).state = .live ∨ (s.window i).state = .suspended) :
    ChainMoves s ((s.setWindow i { s.window i with state := st }).noticeIfSelf (s.window i)) := by
  have hplace : (s.window i).SamePlace { s.window i with state := st } :=
    .of_fields (.inr ⟨hst, hw⟩) rfl rfl rfl rfl rfl
  exact (ChainMoves.setWindow hplace).then_tables (by simp) (by simp) (by simp)

theorem suspendAct_chainMoves (a : Args) (s : State) : ChainMoves s (suspendAct a s).state := by
  refine checked_chainMoves fun hc => setState_chainMoves (.inr rfl) (.inl ?_)
  have hnext := (handleCheck_eq_none hc).2
  by_contra hlive
  simp [hlive] at hnext

theorem resumeAct_chainMoves (a : Args) (s : State) : ChainMoves s (resumeAct a s).state := by
  refine checked_chainMoves fun hc => setState_chainMoves (.inl rfl) (.inr ?_)
  have hnext := (handleCheck_eq_none hc).2
  by_contra hsusp
  simp [hsusp] at hnext

theorem setBudgetAct_chainMoves (a : Args) (s : State) : ChainMoves s (setBudgetAct a s).state :=
  checked_chainMoves fun _ => ChainMoves.setWindow (.of_fields (.inl rfl) rfl rfl rfl rfl rfl)

/-! ## Commands on domains -/

/-- What the range checks of DOMAIN_OPEN and DOMAIN_SET leave of the allowance (R39, R40). -/
theorem policiesOk_allowance {a : Args} (h : policiesOk a = true) : argAllowance a ≤ 16 := by
  simp only [policiesOk, Bool.and_eq_true, decide_eq_true_eq] at h
  exact h.1.2

/-- A change of the policies and the state alone, which keeps the chain, the counts, the allowance and the fence. -/
theorem State.Governs.of_state {s : State} {d : DomId} {y : Domain} (hchain : y.chain = (s.domain d).chain)
    (hself : y.selfCount = (s.domain d).selfCount) (hdrain : y.drainingCount = (s.domain d).drainingCount)
    (hallow : y.selfAllowance = (s.domain d).selfAllowance) (hfence : y.fence = (s.domain d).fence)
    (hstate : y.inService = true ∨
      y.state = (s.domain d).state ∧ (outOfServiceIsEmpty s → (s.domain d).inService = true))
    (hfaults : (s.domain d).FaultsOk → y.FaultsOk) : s.Governs d y where
  chain := hchain
  selfCount := hself
  drainingCount := hdrain
  state := hstate
  allowance h := hallow ▸ h.allowance
  fence _ i _ _ h := by
    obtain ⟨f, hf, hin⟩ := h
    exact ⟨f, hfence.trans hf, hin⟩
  faults := hfaults

theorem domainOpenAct_chainMoves (a : Args) (s : State) : ChainMoves s (domainOpenAct a s).state := by
  refine checked_chainMoves fun hc => ?_
  unfold domainOpenCheck at hc
  split_ifs at hc with hp hstate
  have hunused : (s.domain (argDom a)).state = .unused := not_not.1 hstate
  refine ChainMoves.modDomain (f := fun x => { x.withPolicies a with state := .active })
    ⟨rfl, rfl, rfl, .inl rfl, fun hd => ⟨?_, policiesOk_allowance (by simpa using hp)⟩, fun _ _ _ _ hf => hf,
      fun hfaults => ⟨hfaults.1, fun hcause => ?_⟩⟩
  · rw [hd.selfs, hd.empty (.inl hunused)]
    exact Nat.zero_le _
  · have hout := hfaults.2 hcause
    simp [hunused] at hout

theorem domainSetAct_chainMoves (a : Args) (s : State) : ChainMoves s (domainSetAct a s).state := by
  refine checked_chainMoves fun hc => ?_
  unfold domainSetCheck at hc
  split_ifs at hc with hp hserv hinUse
  have hserv' : (s.domain (argDom a)).inService = true := by simpa using hserv
  exact ChainMoves.modDomain (f := Domain.withPolicies a)
    ⟨rfl, rfl, rfl, .inl hserv',
      fun _ => ⟨not_lt.1 hinUse, policiesOk_allowance (by simpa using hp)⟩, fun _ _ _ _ hf => hf, id⟩

/-- A fence that holds has every SELF window of the chain inside it (R41). -/
theorem State.fenceHolds_iff (s : State) (d : DomId) (f : Fence) : s.fenceHolds d f = true ↔
    ∀ i ∈ (s.domain d).chain, (s.window i).owner = .self →
      f.contains (s.window i).base.toNat (s.window i).sizeExp = true := by
  simp only [State.fenceHolds, State.selfWindows, List.all_eq_true, List.mem_filter, decide_eq_true_eq, and_imp]

theorem setFenceAct_chainMoves (a : Args) (s : State) : ChainMoves s (setFenceAct a s).state := by
  refine checked_chainMoves fun hc => ?_
  unfold setFenceCheck at hc
  split_ifs at hc with _ hserv _ hinside hnone
  have hserv' : (s.domain (argDom a)).inService = true := by simpa using hserv
  refine ChainMoves.modDomain (f := fun x => { x with fence := if argFencePresent a then some (argFence a) else none })
    ⟨rfl, rfl, rfl, .inl hserv', fun hd => hd.allowance, fun hd i hi hself _ => ?_, id⟩
  cases hp : argFencePresent a with
  | true =>
    have hholds : s.fenceHolds (argDom a) (argFence a) = true := by simpa [hp] using hinside
    exact ⟨argFence a, by simp, (s.fenceHolds_iff _ _).1 hholds i hi hself⟩
  | false =>
    have hcount : 0 < (s.domain (argDom a)).selfCount := by
      rw [hd.selfs]
      exact List.countP_pos_iff.2 ⟨i, hi, decide_eq_true hself⟩
    exact absurd ⟨hp, hcount⟩ hnone

/-- FREEZE, THAW, HALT and RELEASE change the state within service, with a notice (R38, R43 to R46). -/
theorem domainChange_chainMoves {f : Domain → Domain} {a : Args} {s : State}
    (h : s.Governs (argDom a) (f (s.domain (argDom a)))) : ChainMoves s (domainChange f a s).state :=
  (ChainMoves.modDomain h).then_tables rfl rfl rfl

theorem freezeAct_chainMoves (a : Args) (s : State) : ChainMoves s (freezeAct a s).state := by
  refine checked_chainMoves fun hc => ?_
  unfold freezeCheck domainStateCheck at hc
  split_ifs at hc with _ hstate
  have hactive : (s.domain (argDom a)).state = .active := by simpa using hstate
  refine domainChange_chainMoves (.of_state rfl rfl rfl rfl rfl (.inl rfl) fun hf => ⟨hf.1, fun hcause => ?_⟩)
  have hout := hf.2 hcause
  simp [hactive] at hout

theorem thawAct_chainMoves (a : Args) (s : State) : ChainMoves s (thawAct a s).state := by
  refine checked_chainMoves fun hc => ?_
  unfold thawCheck domainStateCheck at hc
  split_ifs at hc with _ hstate
  have hfrozen : (s.domain (argDom a)).state = .frozen := by simpa using hstate
  refine domainChange_chainMoves (.of_state rfl rfl rfl rfl rfl (.inl rfl) fun hf => ⟨hf.1, fun hcause => ?_⟩)
  have hout := hf.2 hcause
  simp [hfrozen] at hout

theorem haltAct_chainMoves (a : Args) (s : State) : ChainMoves s (haltAct a s).state :=
  checked_chainMoves fun _ => domainChange_chainMoves
    (.of_state rfl rfl rfl rfl rfl (.inl rfl) fun hf => ⟨hf.1, fun hcause => absurd rfl hcause⟩)

theorem releaseAct_chainMoves (a : Args) (s : State) : ChainMoves s (releaseAct a s).state :=
  checked_chainMoves fun _ => domainChange_chainMoves
    (.of_state rfl rfl rfl rfl rfl (.inl rfl) fun _ => ⟨Nat.zero_le _, fun hcause => absurd rfl hcause⟩)

end Sys2Proof.Machine
end

section
/-! SUPPORT. The moves at the chains that PURGE, the commands on bindings, targets and links, and the control requests
make. -/

namespace Sys2Proof.Machine

/-! ## PURGE (R47) -/

theorem State.removeAll_bindings (d : DomId) (s : State) : (s.removeAll d).bindings = s.bindings := by
  have hfold : ∀ (is : List SlotId) (s : State),
      (is.foldl (fun s i => s.removeWindow d i) s).bindings = s.bindings := by
    intro is
    induction is with
    | nil => exact fun _ => rfl
    | cons i rest ih => exact fun s => (ih _).trans (s.removeWindow_bindings d i)
  exact hfold _ s

/-- The binding of a stream after all bindings to domain `d` are gone (R47, R84). -/
theorem State.bound_unbindAll (d e : DomId) (l : LinkId) (st : DataStream) (s : State) :
    ((s.unbindAll d).stream l st).bound = some e ↔ (s.stream l st).bound = some e ∧ e ≠ d := by
  have hstream : (s.unbindAll d).stream l st =
      if (s.stream l st).bound = some d then { s.stream l st with bound := none } else s.stream l st := by
    simp [State.stream_eq, State.unbindAll]
    rfl
  rw [hstream]
  split
  · next hb => simp [hb, eq_comm]
  · next hb =>
    refine ⟨fun he => ⟨he, ?_⟩, fun he => he.1⟩
    rintro rfl
    exact hb he

theorem purgeEffect_windows (a : Args) (s : State) :
    (purgeEffect a s).state.windows = (s.removeAll (argDom a)).windows := by
  unfold purgeEffect
  dsimp only
  split <;> rfl

theorem purgeEffect_bindings (a : Args) (s : State) :
    (purgeEffect a s).state.bindings = ((s.removeAll (argDom a)).unbindAll (argDom a)).bindings := by
  unfold purgeEffect
  dsimp only
  split <;> rfl

/-- A purged domain is UNUSED when nothing of it drains, and else PURGING (R47). -/
theorem purgeEffect_domain (a : Args) (s : State) (e : DomId) : (purgeEffect a s).state.domain e =
    if argDom a = e then
      (if ((s.removeAll (argDom a)).domain (argDom a)).drainingCount = 0 then Domain.unused
       else { (s.removeAll (argDom a)).domain (argDom a) with state := .purging })
    else s.domain e := by
  have hunbind : ∀ e, ((s.removeAll (argDom a)).unbindAll (argDom a)).domain e = (s.removeAll (argDom a)).domain e :=
    fun _ => rfl
  have hother : argDom a ≠ e → (s.removeAll (argDom a)).domain e = s.domain e := fun he => by
    rw [State.domain_removeAll, if_neg he]
  unfold purgeEffect
  simp only [hunbind]
  by_cases hzero : ((s.removeAll (argDom a)).domain (argDom a)).drainingCount = 0
  · rw [if_pos hzero, State.domain_setDomain, hunbind]
    split
    · rfl
    · next he => exact hother he
  · rw [if_neg hzero, State.domain_modDomain, hunbind, hunbind]
    split
    · rfl
    · next he => exact hother he

theorem purgeAct_chainMoves (a : Args) (s : State) : ChainMoves s (purgeAct a s).state := by
  refine checked_chainMoves fun _ => .single ?_
  refine .purges (purgeEffect_windows a s) (fun l st e => ?_) (purgeEffect_domain a s)
  rw [State.stream_of_bindings (purgeEffect_bindings a s), State.bound_unbindAll,
    State.stream_of_bindings (State.removeAll_bindings ..)]

/-! ## Commands on bindings -/

theorem bindAct_chainMoves (a : Args) (s : State) : ChainMoves s (bindAct a s).state := by
  refine checked_chainMoves fun hc => ?_
  unfold bindCheck at hc
  dsimp only at hc
  split at hc
  · cases hc
  · split at hc
    · cases hc
    · next st hst =>
      split_ifs at hc with _ hserv
      simp only [bindEffect, hst]
      refine .single (.stays rfl (fun i => .refl _) fun l k d hb => ?_)
      rw [State.stream_setStream] at hb
      split at hb
      · refine .inr ?_
        obtain rfl := Option.some.inj hb
        simpa using hserv
      · exact .inl hb

/-- An entry of a stream is written without a new binding. -/
theorem ChainMoves.setStream {s : State} {l : LinkId} {st : DataStream} {x : StreamEntry}
    (h : x.bound = none ∨ x.bound = (s.stream l st).bound) : ChainMoves s (s.setStream l st x) := by
  refine .single (.stays rfl (fun i => .refl _) fun m k d hb => .inl ?_)
  rw [State.stream_setStream] at hb
  split at hb
  · next heq =>
    obtain ⟨rfl, rfl⟩ := heq
    rcases h with h | h
    · rw [h] at hb
      cases hb
    · rwa [h] at hb
  · exact hb

theorem unbindAct_chainMoves (a : Args) (s : State) : ChainMoves s (unbindAct a s).state := by
  refine checked_chainMoves fun _ => ?_
  unfold unbindEffect
  split
  · exact .refl
  · next st _ =>
    exact (ChainMoves.setStream (x := { s.stream (argLink a) st with bound := none }) (.inl rfl)).then_tables rfl rfl rfl

theorem streamSetAct_chainMoves (a : Args) (s : State) : ChainMoves s (streamSetAct a s).state := by
  refine checked_chainMoves fun _ => ?_
  unfold streamSetEffect
  split
  · exact .refl
  · exact ChainMoves.setStream (.inr rfl)

/-! ## Commands on targets and links -/

theorem targetSetAct_chainMoves (a : Args) (s : State) : ChainMoves s (targetSetAct a s).state := by
  refine checked_chainMoves fun _ => ?_
  unfold targetSetEffect
  dsimp only
  split
  · exact .refl
  · exact .refl
  · exact (s.endAll_chainMoves _).then_tables rfl rfl rfl
  · exact (s.endAll_chainMoves _).then_tables rfl rfl rfl

theorem State.linkEnable_chainMoves (l : LinkId) (s : State) : ChainMoves s (s.linkEnable l) :=
  .ite (s.enterDown_chainMoves l) .refl

theorem State.linkDisable_chainMoves (l : LinkId) (s : State) : ChainMoves s (s.linkDisable l) := by
  unfold State.linkDisable
  split
  · exact .refl
  · exact (s.leaveUp_chainMoves l).then_tables (by simp) (by simp) (by simp)
  all_goals exact ChainMoves.of_tables rfl rfl rfl

theorem linkSetAct_chainMoves (a : Args) (s : State) : ChainMoves s (linkSetAct a s).state :=
  checked_chainMoves fun _ =>
    .ite (s.linkEnable_chainMoves _) (.ite (s.linkDisable_chainMoves _) (.ite (s.partReset_chainMoves _) .refl))

/-! ## Control requests -/

theorem State.modDomain_modDomain (d : DomId) (f g : Domain → Domain) (s : State) :
    (s.modDomain d f).modDomain d g = s.modDomain d fun x => g (f x) := by
  simp only [State.modDomain, State.domain_setDomain, if_pos]
  simp only [State.setDomain, Vector.set_set]

/-- The window OPEN creates joins the chain as a SELF window (R147). -/
theorem openEffect_installed {q : CtlRequest} {d : DomId} {s : State} {i : SlotId} {f : Fence}
    (hi : s.lowestFree = some i) (hf : (s.domain d).fence = some f) :
    (openEffect q d s).state = (s.installed d i (q.selfWindow d f (s.selfRank d))).selfChanged q d := by
  simp only [openEffect, hi, hf, State.chainInsert, State.modDomain_modDomain]
  rfl

/-- The rank OPEN gives is a SELF rank (R30, R147). -/
theorem State.selfRank_range (s : State) (d : DomId) : 128 ≤ s.selfRank d ∧ s.selfRank d ≤ 255 := by
  unfold State.selfRank
  cases h : ((List.range 128).map (· + Config.selfRankMin)).find? fun r => !(s.rankHeld d r) with
  | none => simp
  | some r =>
    obtain ⟨n, hn, rfl⟩ := List.mem_map.1 (List.mem_of_find?_eq_some h)
    have hlt := List.mem_range.1 hn
    simp only [Option.getD_some, Config.selfRankMin]
    omega

/-- A chain with a FREE slot beside it leaves one of the 128 SELF ranks unheld. -/
theorem ChainLaw.selfRank_not_held {s : State} {d : DomId} (h : ChainLaw s d) {i : SlotId}
    (hi : (s.window i).state = .free) : s.rankHeld d (s.selfRank d) = false := by
  unfold State.selfRank
  cases hfind : ((List.range 128).map (· + Config.selfRankMin)).find? fun r => !(s.rankHeld d r) with
  | some r => simpa using List.find?_some hfind
  | none =>
    have hheld : (List.range 128).map (· + Config.selfRankMin) ⊆ (s.domain d).chain.map fun j => (s.window j).rank := by
      intro r hr
      have hr' := List.find?_eq_none.1 hfind r hr
      obtain ⟨j, hj, hrank⟩ := (s.rankHeld_iff d r).1 (by simpa using hr')
      exact List.mem_map.2 ⟨j, hj, hrank⟩
    have hdistinct : ((List.range 128).map (· + Config.selfRankMin)).Nodup :=
      List.nodup_range.map fun a b hab => by simpa using hab
    have hlong := (hdistinct.subperm hheld).length_le
    have hshort := (List.nodup_cons.2 ⟨h.free_not_mem hi, h.nodup⟩).length_le_card
    simp only [List.length_map, List.length_range, List.length_cons, Fintype.card_fin] at hlong hshort
    omega

/-- A control request is carried out only for an ACTIVE domain (R145). -/
theorem State.controlDomain_active {q : CtlRequest} {s : State} {d : DomId} (h : s.controlDomain q = .ok d) :
    (s.domain d).state = .active := by
  unfold State.controlDomain at h
  split at h
  · cases h
  · split at h
    · cases h
    · split at h
      · next hactive =>
        cases h
        exact hactive
      · cases h

/-- What the checks of OPEN leave when they pass, as far as the chain is concerned (R145, R146). -/
theorem openCheck_eq_ok_chain {q : CtlRequest} {s : State} {d : DomId} (h : openCheck q s = .ok d) :
    (s.domain d).state = .active ∧ (s.domain d).selfCount ≠ (s.domain d).selfAllowance ∧
      ∃ f i, (s.domain d).fence = some f ∧ s.lowestFree = some i := by
  unfold openCheck at h
  split at h
  · cases h
  · split at h
    · cases h
    · split at h
      · cases h
      · next e he =>
        split at h
        · cases h
        · split at h
          · cases h
          · next f hf =>
            split_ifs at h with _ _ hallow hfree
            cases h
            obtain ⟨i, hi⟩ := Option.ne_none_iff_exists'.1 hfree
            exact ⟨State.controlDomain_active he, hallow, f, i, hf, hi⟩

theorem openAct_chainMoves (q : CtlRequest) (s : State) : ChainMoves s (openAct q s).state := by
  unfold openAct
  split
  · exact .refl
  · next d hd =>
    obtain ⟨-, harea, hin⟩ := openCheck_eq_ok hd
    obtain ⟨hactive, hallow, f, i, hf, hi⟩ := openCheck_eq_ok_chain hd
    have hfree := ((s.lowestFree_eq_some_iff i).1 hi).1
    have hbase : (BitVec.ofNat 48 q.openGeometry.base).toNat = q.openGeometry.base := by
      rw [BitVec.toNat_ofNat, Nat.mod_eq_of_lt ((Geometry.areaOk_iff _).1 harea).2.2.1]
    rw [openEffect_installed hi hf]
    refine ChainMoves.then_tables (.single (.installs ⟨hfree, ?_, ⟨.inl rfl, rfl⟩, fun h => h.selfRank_not_held hfree,
      ⟨fun h => absurd h (by simp [CtlRequest.selfWindow]), fun _ => s.selfRank_range d⟩, fun _ => hallow, fun _ => ⟨f, hf, ?_⟩⟩)) rfl rfl rfl
    · exact (Domain.inService_iff _).2 (.inl hactive)
    · rw [show (q.selfWindow d f (s.selfRank d)).base.toNat = q.openGeometry.base from hbase]
      exact hin f hf

/-- CLOSE names a window that stands on the chain of the domain (R145, R148). -/
theorem ownWindowCheck_eq_ok_chain {q : CtlRequest} {s : State} {d : DomId} {i : SlotId}
    (h : ownWindowCheck q s = .ok (d, i)) :
    (s.window i).state ≠ .free ∧ (s.window i).state ≠ .draining ∧ (s.window i).domain = d := by
  refine ⟨ownWindowCheck_eq_ok h, ?_⟩
  unfold ownWindowCheck at h
  split_ifs at h
  split at h
  · cases h
  · cases h
  · split at h
    · cases h
    · split_ifs at h with hdrain hown
      cases h
      simp only [not_or, not_not] at hown
      exact ⟨hdrain, hown.2⟩

theorem closeAct_chainMoves (q : CtlRequest) (s : State) : ChainMoves s (closeAct q s).state := by
  unfold closeAct
  split
  · exact .refl
  · next d i hd =>
    obtain ⟨hfree, hdrain, rfl⟩ := ownWindowCheck_eq_ok_chain hd
    exact (State.removeWindow_chainMoves hfree hdrain).then_tables rfl rfl rfl

theorem narrowAct_chainMoves (q : CtlRequest) (s : State) : ChainMoves s (narrowAct q s).state := by
  unfold narrowAct
  split
  · exact .refl
  · next d i _ =>
    have hplace : (s.window i).SamePlace
        { s.window i with perms := (s.window i).perms.narrowTo (Perms.ofNat (byteAt q.body 4).toNat) } :=
      .of_fields (.inl rfl) rfl rfl rfl rfl rfl
    exact (ChainMoves.setWindow hplace).then_tables rfl rfl rfl

end Sys2Proof.Machine
end

section
/-! SUPPORT. The moves at the chains that an examination, the fabric side, the links and the resets make; and so those of
every event and every step. -/

namespace Sys2Proof.Machine

/-! ## An examination -/

/-- The domain a ruling was made in. -/
def Ruling.domain? : Ruling → Option DomId
  | .noStream => none
  | .unbound _ => none
  | .halted => none
  | .miss d _ => some d
  | .suspended d _ => some d
  | .boundary d _ => some d
  | .access d _ => some d
  | .targetOffline d _ => some d
  | .budget d _ => some d
  | .admits d _ => some d

theorem State.windowRuling_domain (s : State) (d : DomId) (i : SlotId) (q : Request) :
    (s.windowRuling d i q).domain? = some d := by
  unfold State.windowRuling
  dsimp only
  split_ifs <;> rfl

/-- A ruling is made in the domain to which the request's stream is bound (R58). -/
theorem State.ruling_bound {s : State} {q : Request} {d : DomId} (h : (s.ruling q).domain? = some d) :
    (s.stream q.link q.stream).bound = some d := by
  unfold State.ruling at h
  dsimp only at h
  split_ifs at h
  · cases h
  · split at h
    · cases h
    · next e he =>
      split_ifs at h
      · cases h
      · split at h
        · exact he.trans h
        · rw [State.windowRuling_domain] at h
          exact he.trans h

/-- A fault counted against a domain to which a stream is bound (R33, R34). -/
theorem State.countFault_chainMoves {d : DomId} {k : FaultKind} {q : Request} {s : State} {l : LinkId}
    {st : DataStream} (hb : (s.stream l st).bound = some d) : ChainMoves s (s.countFault d k q) := by
  have hserv : outOfServiceIsEmpty s → (s.domain d).inService = true := by
    intro hs
    by_contra hout
    exact (hs d (Domain.inService_eq_false.1 (by simpa using hout))).2 l st hb
  have hcount : countUp (s.domain d).faultCount ≤ 255 := Nat.min_le_left _ _
  unfold State.countFault
  dsimp only
  split
  · refine ChainMoves.then_tables (.single (.governs (d := d) ?_)) rfl rfl rfl
    exact .of_state rfl rfl rfl rfl rfl (.inl rfl) fun _ => ⟨hcount, fun _ => .inl rfl⟩
  · exact .single (.governs (.of_state rfl rfl rfl rfl rfl (.inr ⟨rfl, hserv⟩) fun hf => ⟨hcount, hf.2⟩))

/-- Records change without a change of place, and domains and bindings stay. -/
theorem ChainMoves.of_places {s t : State} (hw : ∀ i, (s.window i).SamePlace (t.window i))
    (hd : t.domains = s.domains) (hb : t.bindings = s.bindings) : ChainMoves s t :=
  .single (.stays hd hw fun l st d h => .inl (by rwa [State.stream_of_bindings hb] at h))

theorem State.setAlert_chainMoves (i : SlotId) (s : State) : ChainMoves s (s.setAlert i) := by
  refine .of_places (fun j => ?_) (by simp) (by simp)
  rw [State.window_setAlert]
  split
  · next hij => exact hij ▸ .of_fields (.inl rfl) rfl rfl rfl rfl rfl
  · exact .refl _

theorem State.charge_chainMoves (i : SlotId) (len : Nat) (s : State) : ChainMoves s (s.charge i len) := by
  refine .of_places (fun j => ?_) (by simp) (by simp)
  rw [State.window_charge]
  split
  · next hij => exact hij ▸ .of_fields (.inl rfl) rfl rfl rfl rfl rfl
  · exact .refl _

/-- The changes of a resolution in a domain to which a stream is bound (outcome table of section 3.6). -/
theorem State.resolutionChanges_chainMoves {q : Request} {r : Ruling} {s : State}
    (hb : ∀ d, r.domain? = some d → (s.stream q.link q.stream).bound = some d) :
    ChainMoves s (s.resolutionChanges q r) := by
  have hplain : ChainMoves s (s.plainChanges q r) := by
    unfold State.plainChanges
    split
    case h_2 => exact ChainMoves.of_tables (by simp) (by simp) (by simp)
    case h_4 | h_8 | h_9 => exact State.countFault_chainMoves (hb _ rfl)
    case h_11 => exact s.setAlert_chainMoves _
    case h_12 => exact s.charge_chainMoves _ _
    all_goals exact .refl
  unfold State.resolutionChanges
  split
  · exact hplain
  · exact hplain
  · unfold State.specChanges
    split
    · exact s.charge_chainMoves _ _
    · exact .refl

theorem State.examine_chainMoves (l : LinkId) (e : EntryNo) (q : Request) (rest : List Request) (s : State) :
    ChainMoves s (s.examine l e q rest) := by
  have hpop : ChainMoves s (s.modPort l fun p => { p with ingress := rest }) := .of_tables rfl rfl rfl
  have hchanges := hpop.trans (State.resolutionChanges_chainMoves (q := q) (r := s.ruling q) fun d hd =>
    State.ruling_bound hd)
  unfold State.examine
  dsimp only
  split
  · exact ChainMoves.then_tables hchanges rfl rfl rfl
  · exact ChainMoves.then_tables hchanges rfl rfl rfl
  · split
    · exact hchanges
    · exact ChainMoves.then_tables hchanges rfl rfl rfl

theorem execExamination_chainMoves {l : LinkId} {s t : State} (h : execExamination l s = .next t) :
    ChainMoves s t := by
  unfold execExamination at h
  split at h
  · split at h
    · cases h
      exact s.examine_chainMoves ..
    · cases h
      exact .refl
  · cases h
    exact .refl

/-! ## The fabric side -/

theorem execGrant_chainMoves {s t : State} (h : execGrant s = .next t) : ChainMoves s t := by
  unfold execGrant at h
  split at h
  · split at h
    · cases h
      exact .refl
    · split at h <;> cases h
      · exact ChainMoves.of_tables rfl rfl rfl
      · exact .refl
      · exact .refl
  · cases h
    exact .refl

theorem execCompletion_chainMoves {tag : Nat} {st : CompletionStatus} {data : List Byte} {s t : State}
    (h : execCompletion tag st data s = .next t) : ChainMoves s t := by
  unfold execCompletion at h
  split at h
  · split at h <;> cases h
    · exact ChainMoves.of_tables rfl rfl rfl
    · exact ChainMoves.of_tables rfl rfl rfl
    · exact s.endWithReply_chainMoves ..
  · cases h
    exact ChainMoves.of_tables rfl rfl rfl

theorem execDeadlineExpiry_chainMoves {l : LinkId} {e : EntryNo} {s t : State}
    (h : execDeadlineExpiry l e s = .next t) : ChainMoves s t := by
  unfold execDeadlineExpiry at h
  split at h <;> cases h
  · next dl _ =>
    have hreach : ChainMoves s (s.reach dl) := .of_tables rfl rfl rfl
    exact ChainMoves.then_tables (hreach.trans (State.endWithReply_chainMoves ..)) rfl rfl rfl
  · exact .refl
  · exact .refl

/-! ## The links -/

theorem State.dataArrives_chainMoves (l : LinkId) (kind : ReqKind) (tag : PeerTag) (stream : StreamNo) (addr : InAddr)
    (len : Nat) (data : Option (List Byte)) (s : State) :
    ChainMoves s (s.dataArrives l kind tag stream addr len data) := by
  refine .ite ?_ .refl
  split
  · exact ChainMoves.of_tables rfl rfl rfl
  · exact s.protocolError_chainMoves ..
  · exact s.protocolError_chainMoves ..

theorem State.ctlArrives_chainMoves (l : LinkId) (tag : CtlTag) (byte2 op : Byte) (body : List Byte) (s : State) :
    ChainMoves s (s.ctlArrives l tag byte2 op body) := by
  refine .ite (s.protocolError_chainMoves ..) (.ite (s.protocolError_chainMoves ..) ?_)
  split
  · exact ChainMoves.of_tables rfl rfl rfl
  · exact .ite (.of_tables rfl rfl rfl) (.ite (.of_tables rfl rfl rfl) (.of_tables rfl rfl rfl))

theorem execNoticeAck_chainMoves {l : LinkId} {s t : State} (h : execNoticeAck l s = .next t) : ChainMoves s t := by
  cases h
  refine .ite ?_ .refl
  split
  · exact ChainMoves.of_tables rfl rfl rfl
  · exact s.protocolError_chainMoves ..
  · exact .refl

theorem execLinkReset_chainMoves {l : LinkId} {s t : State} (h : execLinkReset l s = .next t) : ChainMoves s t := by
  cases h
  split
  · exact (s.leaveUp_chainMoves l).then_tables (by simp) (by simp) (by simp)
  · exact ChainMoves.of_tables rfl rfl rfl
  all_goals exact .refl

theorem execSignalLoss_chainMoves {l : LinkId} {s t : State} (h : execSignalLoss l s = .next t) : ChainMoves s t := by
  cases h
  have hsignal : ChainMoves s (s.modPort l fun p => { p with signal := false }) := .of_tables rfl rfl rfl
  split
  · exact hsignal
  · exact hsignal
  · exact hsignal.trans (State.enterDown_chainMoves l _)
  · exact (hsignal.trans (State.leaveUp_chainMoves l _)).trans (State.enterDown_chainMoves l _)
  · exact hsignal.trans (State.enterDown_chainMoves l _)

theorem execHelloTimerExpiry_chainMoves {l : LinkId} {s t : State} (h : execHelloTimerExpiry l s = .next t) :
    ChainMoves s t := by
  cases h
  split
  · exact ChainMoves.of_tables rfl rfl rfl
  · exact .refl

theorem execHandshakeTimerExpiry_chainMoves {l : LinkId} {s t : State} (h : execHandshakeTimerExpiry l s = .next t) :
    ChainMoves s t := by
  cases h
  split
  · exact ChainMoves.of_tables rfl rfl rfl
  · exact .refl

theorem execSendDataReply_chainMoves {l : LinkId} {tag : PeerTag} {s t : State}
    (h : execSendDataReply l tag s = .next t) : ChainMoves s t := by
  cases h
  refine .ite ?_ .refl
  split
  · exact .refl
  · exact ChainMoves.of_tables rfl rfl rfl

theorem execSendCtlReply_chainMoves {l : LinkId} {tag : CtlTag} {s t : State}
    (h : execSendCtlReply l tag s = .next t) : ChainMoves s t := by
  cases h
  refine .ite ?_ .refl
  split
  · exact .refl
  · exact ChainMoves.of_tables rfl rfl rfl

/-! ## Resets and register writes -/

theorem State.restartLinks_chainMoves (wasUp : LinkId → Bool) (s : State) : ChainMoves s (s.restartLinks wasUp) := by
  rw [State.restartLinks_eq]
  exact ChainMoves.of_tables rfl rfl rfl

theorem State.bound_powerOnTables (s : State) (l : LinkId) (st : DataStream) :
    (s.powerOnTables.stream l st).bound = none := by
  simp [State.stream_eq, State.powerOnTables, State.reset, StreamEntry.initial]

theorem State.powerOnTables_chainMoves (s : State) : ChainMoves s s.powerOnTables :=
  .single (.restarts (fun i => ⟨0, s.window_powerOnTables i⟩) s.domain_powerOnTables s.bound_powerOnTables)

theorem State.deviceReset_chainMoves (s : State) : ChainMoves s s.deviceReset := by
  refine .trans ?_ (State.restartLinks_chainMoves _ _)
  exact .single (.restarts (fun i => ⟨_, s.window_deviceResetTables i⟩) s.domain_powerOnTables s.bound_powerOnTables)

theorem State.writeCmdIssue_chainMoves (value : Word) (s : State) : ChainMoves s (s.writeCmdIssue value) := by
  unfold State.writeCmdIssue
  split <;> exact ChainMoves.of_tables rfl rfl rfl

theorem State.writeRegister_chainMoves (r : Register) (value : Word) (s : State) :
    ChainMoves s (s.writeRegister r value) := by
  cases r with
  | deviceControl => exact ChainMoves.ite s.deviceReset_chainMoves .refl
  | cmdIssue => exact s.writeCmdIssue_chainMoves value
  | cmdArg | unboundSet | eventLatch | eventEnable | summaryEnable => exact ChainMoves.of_tables rfl rfl rfl
  | identification | cmdStatus | cmdResult | linkState | targetState0 | targetState1 | tagStatus | summary | unassigned =>
    exact .refl

/-! ## The moves of an event and of a step -/

theorem setTimeoutAct_chainMoves (a : Args) (s : State) : ChainMoves s (setTimeoutAct a s).state :=
  checked_chainMoves fun _ => ChainMoves.of_tables rfl rfl rfl

theorem readWindowAct_chainMoves (a : Args) (s : State) : ChainMoves s (readWindowAct a s).state :=
  checked_chainMoves fun _ => .refl

theorem readDomainAct_chainMoves (a : Args) (s : State) : ChainMoves s (readDomainAct a s).state :=
  checked_chainMoves fun _ => .refl

theorem readChainAct_chainMoves (a : Args) (s : State) : ChainMoves s (readChainAct a s).state :=
  checked_chainMoves fun _ => .refl

theorem probeAct_chainMoves (a : Args) (s : State) : ChainMoves s (probeAct a s).state := by
  refine checked_chainMoves fun _ => ?_
  unfold probeEffect
  split <;> exact .refl

theorem statusAct_chainMoves (q : CtlRequest) (s : State) : ChainMoves s (statusAct q s).state := by
  unfold statusAct
  split <;> exact .refl

/-- Every event makes a sequence of moves at the chains. -/
theorem exec_chainMoves {c : Instr} {s t : State} (h : exec c s = .next t) : ChainMoves s t := by
  cases c with
  | install => exact takeCommand_chainMoves (fun a => installAct_chainMoves a s) h
  | replace => exact takeCommand_chainMoves (fun a => replaceAct_chainMoves a s) h
  | retire => exact takeCommand_chainMoves (fun a => retireAct_chainMoves a s) h
  | suspend => exact takeCommand_chainMoves (fun a => suspendAct_chainMoves a s) h
  | resume => exact takeCommand_chainMoves (fun a => resumeAct_chainMoves a s) h
  | setBudget => exact takeCommand_chainMoves (fun a => setBudgetAct_chainMoves a s) h
  | domainOpen => exact takeCommand_chainMoves (fun a => domainOpenAct_chainMoves a s) h
  | domainSet => exact takeCommand_chainMoves (fun a => domainSetAct_chainMoves a s) h
  | setFence => exact takeCommand_chainMoves (fun a => setFenceAct_chainMoves a s) h
  | freeze => exact takeCommand_chainMoves (fun a => freezeAct_chainMoves a s) h
  | thaw => exact takeCommand_chainMoves (fun a => thawAct_chainMoves a s) h
  | halt => exact takeCommand_chainMoves (fun a => haltAct_chainMoves a s) h
  | release => exact takeCommand_chainMoves (fun a => releaseAct_chainMoves a s) h
  | purge => exact takeCommand_chainMoves (fun a => purgeAct_chainMoves a s) h
  | bind => exact takeCommand_chainMoves (fun a => bindAct_chainMoves a s) h
  | unbind => exact takeCommand_chainMoves (fun a => unbindAct_chainMoves a s) h
  | streamSet => exact takeCommand_chainMoves (fun a => streamSetAct_chainMoves a s) h
  | targetSet => exact takeCommand_chainMoves (fun a => targetSetAct_chainMoves a s) h
  | linkSet => exact takeCommand_chainMoves (fun a => linkSetAct_chainMoves a s) h
  | readWindow => exact takeCommand_chainMoves (fun a => readWindowAct_chainMoves a s) h
  | readDomain => exact takeCommand_chainMoves (fun a => readDomainAct_chainMoves a s) h
  | readChain => exact takeCommand_chainMoves (fun a => readChainAct_chainMoves a s) h
  | setTimeout => exact takeCommand_chainMoves (fun a => setTimeoutAct_chainMoves a s) h
  | probe => exact takeCommand_chainMoves (fun a => probeAct_chainMoves a s) h
  | badCommand => exact takeCommand_chainMoves (fun _ => .refl) h
  | openWindow => exact takeControl_chainMoves (fun q => openAct_chainMoves q s) h
  | closeWindow => exact takeControl_chainMoves (fun q => closeAct_chainMoves q s) h
  | narrow => exact takeControl_chainMoves (fun q => narrowAct_chainMoves q s) h
  | status => exact takeControl_chainMoves (fun q => statusAct_chainMoves q s) h
  | ctl =>
    cases h
    exact .ite (s.ctlArrives_chainMoves ..) .refl
  | wr | rd | rds =>
    cases h
    exact s.dataArrives_chainMoves ..
  | noticeAck => exact execNoticeAck_chainMoves h
  | linkReset => exact execLinkReset_chainMoves h
  | unknownKind =>
    cases h
    exact .ite (s.protocolError_chainMoves ..) .refl
  | signalLoss => exact execSignalLoss_chainMoves h
  | helloTimerExpiry => exact execHelloTimerExpiry_chainMoves h
  | handshakeTimerExpiry => exact execHandshakeTimerExpiry_chainMoves h
  | examination => exact execExamination_chainMoves h
  | grant => exact execGrant_chainMoves h
  | completion => exact execCompletion_chainMoves h
  | deadlineExpiry => exact execDeadlineExpiry_chainMoves h
  | hello | notice | signalDetection =>
    cases h
    exact .ite (.of_tables rfl rfl rfl) (.of_tables rfl rfl rfl)
  | sendDataReply => exact execSendDataReply_chainMoves h
  | sendCtlReply => exact execSendCtlReply_chainMoves h
  | powerOnReset =>
    cases h
    exact s.powerOnTables_chainMoves.trans (State.restartLinks_chainMoves _ _)
  | deviceReset =>
    cases h
    exact s.deviceReset_chainMoves
  | cmdIssue value =>
    cases h
    exact s.writeCmdIssue_chainMoves value
  | registerWrite =>
    cases h
    exact s.writeRegister_chainMoves ..
  | unboundSetRemove | eventClear | eventEnableWrite | summaryEnableWrite =>
    cases h
    exact ChainMoves.of_tables rfl rfl rfl

/-- Every step makes a sequence of moves at the chains. -/
theorem step_chainMoves {s t : State} (h : step s = .next t) : ChainMoves s t := by
  unfold step at h
  split at h
  · next c rest _ =>
    have hpop : ChainMoves s { s with pending := rest } := .of_tables rfl rfl rfl
    exact hpop.trans (exec_chainMoves h)
  · unfold idleStep at h
    split at h
    · exact exec_chainMoves h
    · cases h
      exact ChainMoves.of_tables rfl rfl rfl

/-! ## The laws over a step -/

/-- Settles O51: every move at the chains keeps the chain laws, and the law that a domain out of service is unbound. -/
theorem chainLawsKeptByStep : Obligations.ChainLawsKeptByStep :=
  fun _ _ hout hs hstep => (step_chainMoves hstep).keep_chainsSound hout hs

/-- Settles O55: every move at the chains keeps SELF windows fenced, under the chain laws as far as the chains go. -/
theorem fenceLawKeptByStep : Obligations.FenceLawKeptByStep :=
  fun _ _ hchains hs hstep => (step_chainMoves hstep).keep_selfWindowsFenced ((chainsSound_iff _).1 hchains).1 hs

/-- Settles O56: every move at the chains keeps the two laws of the domain records. -/
theorem domainRecordLawsKeptByStep : Obligations.DomainRecordLawsKeptByStep :=
  ⟨fun _ _ _ hs hstep => (step_chainMoves hstep).keep_outOfServiceIsEmpty hs,
    fun _ _ _ hs hstep => (step_chainMoves hstep).keep_faultsConsistent hs⟩

end Sys2Proof.Machine
end

section
/-! CERTIFICATES. The commands on domains (02_domains_and_their_chains.md section 2.8): what each does when it is accepted,
and the first check that refuses it. -/

namespace Sys2Proof.Machine

open Sys2Proof.Spec

/-! ## The arguments in the words of the rules -/

theorem MissPolicy.ofNat?_num (m : MissPolicy) : MissPolicy.ofNat? m.num = some m := by
  cases m <;> rfl

theorem MissPolicy.isSome_ofNat? (n : Nat) : (MissPolicy.ofNat? n).isSome = true ↔ n ≤ 2 := by
  match n with
  | 0 | 1 | 2 => simp [MissPolicy.ofNat?]
  | n + 3 => simp [MissPolicy.ofNat?]

/-- The argument ranges of DOMAIN_OPEN and DOMAIN_SET in the words of R39 and R40. -/
abbrev policiesBad (a : Args) : Prop :=
  15 < argField a 0 0 8 ∨ 2 < argField a 0 8 2 ∨ 16 < argField a 0 16 5 ∨ ¬permsFit (Perms.ofNat (argField a 0 12 3))

theorem policiesOk_iff (a : Args) : policiesOk a = true ↔ ¬policiesBad a := by
  have hlimit : argFaultLimit a ≤ 255 := Nat.le_of_lt_succ (argField_lt a 0 24 8)
  simp only [policiesOk, Bool.and_eq_true, decide_eq_true_eq, hlimit, and_true, argMissPolicy,
    MissPolicy.isSome_ofNat?, Perms.legal_iff, policiesBad, not_or, not_lt, not_not]
  exact ⟨fun ⟨⟨⟨hd, hm⟩, ha⟩, hc⟩ => ⟨hd, hm, ha, hc⟩, fun ⟨hd, hm, ha, hc⟩ => ⟨⟨⟨hd, hm⟩, ha⟩, hc⟩⟩

theorem policiesOk_eq_false_iff (a : Args) : policiesOk a = false ↔ policiesBad a := by
  rw [← Bool.not_eq_true, policiesOk_iff, not_not]

theorem argDom_eq {a : Args} {d : DomId} (hd : argField a 0 0 8 = d.val) : argDom a = d := ofNat_eq_of_val hd

theorem Fence.contains_iff (f : Fence) (base n : Nat) : f.contains base n = true ↔ insideFence f base n := by
  simp [Fence.contains]

/-- A fence fails to hold when a SELF window of the chain is not inside it (R41). -/
theorem State.fenceHolds_eq_false_iff (s : State) (d : DomId) (f : Fence) : s.fenceHolds d f = false ↔
    ∃ i ∈ (s.domain d).chain, (s.window i).owner = .self ∧
      ¬insideFence f (s.window i).base.toNat (s.window i).sizeExp := by
  rw [← Bool.not_eq_true, State.fenceHolds_iff]
  simp only [Fence.contains_iff, not_forall, exists_prop]

/-! ## Accepted DOMAIN_OPEN, DOMAIN_SET and SET_FENCE -/

/-- The policies of the arguments in a domain's record (R39, R40). -/
theorem Domain.withPolicies_eq {a : Args} {m : MissPolicy} (hm : argField a 0 8 2 = m.num) (x : Domain) :
    x.withPolicies a =
      { x with
        missPolicy := m
        faultLimit := argField a 0 24 8
        selfAllowance := argField a 0 16 5
        selfCeiling := Perms.ofNat (argField a 0 12 3) } := by
  simp only [Domain.withPolicies, argMissPolicy, hm, MissPolicy.ofNat?_num, Option.getD_some]
  rfl

/-- The checks of SET_FENCE behind the argument ranges (R41). -/
theorem setFenceCheck_of_args {a : Args} {d : DomId} (hd : argField a 0 0 8 = d.val)
    (h : ¬(argFencePresent a = true ∧ 3 < argField a 1 16 8)) (s : State) : setFenceCheck a s =
      if (s.domain d).inService = false then some .domainState
      else if argFencePresent a = true ∧ (argGeometry a).ok = false then some .badGeometry
      else if argFencePresent a = true ∧ s.fenceHolds d (argFence a) = false then some .inUse
      else if argFencePresent a = false ∧ 0 < (s.domain d).selfCount then some .inUse
      else none := by
  have hrange : ¬(15 < argDomain a ∨ (argFencePresent a = true ∧ 3 < argTarget a)) := by
    have hlt : argDomain a = d.val := hd
    exact fun hbad => hbad.elim (fun hlarge => by omega) h
  rw [setFenceCheck, if_neg hrange, argDom_eq hd]

/-- Settles O23: the checks pass, and each effect writes the one record. -/
theorem domainPoliciesAndFenceWritten : Obligations.DomainPoliciesAndFenceWritten := by
  intro s c d hd x ceiling
  have hdom : argDom c.args = d := argDom_eq hd
  refine ⟨fun m hm hallow hperms => ?policies, fun ht hserv => ⟨?fence, fun habsent hself => ?noFence⟩⟩
  case policies =>
    have hok : policiesOk c.args = true := by
      have hnum : m.num ≤ 2 := by cases m <;> decide
      refine (policiesOk_iff c.args).2 fun hbad => ?_
      rcases hbad with hbad | hbad | hbad | hbad
      · omega
      · omega
      · omega
      · exact hbad hperms
    refine ⟨fun ht hstate => takeCommand_effects ht ?_ ?_, fun ht hserv hself => takeCommand_effects ht ?_ ?_⟩
    · have hunused : (s.domain d).state = .unused := hstate
      simp [domainOpenCheck, hok, hdom, hunused]
    · simp only [domainOpenEffect, hdom, Domain.withPolicies_eq hm]
      rfl
    · have hserv' : (s.domain d).inService = true := (Domain.inService_iff _).2 hserv
      have hself' : ¬argAllowance c.args < (s.domain d).selfCount := not_lt.2 hself
      simp [domainSetCheck, hok, hdom, hserv', hself']
    · simp only [domainSetEffect, hdom]
      simp only [State.modDomain, Domain.withPolicies_eq hm]
      rfl
  case fence =>
    intro g hpresent hg hgeom f hinside
    have hpresent' : argFencePresent c.args = true := hpresent
    have hserv' : (s.domain d).inService = true := (Domain.inService_iff _).2 hserv
    have hf : argFence c.args = f := by
      simp only [argFence, argTarget, ofNat_eq_of_val hg]
      rfl
    have hholds : s.fenceHolds d f = true :=
      (s.fenceHolds_iff d f).2 fun i hi ho => (f.contains_iff _ _).2 (hinside i hi ho)
    refine takeCommand_effects ht ?_ ?_
    · rw [setFenceCheck_of_args hd (by omega)]
      simp [hserv', hf, hholds, (argGeometry_ok_iff c.args).2 hgeom, hpresent']
    · simp only [setFenceEffect, hdom, hpresent', if_true, hf]
      rfl
  case noFence =>
    have habsent' : argFencePresent c.args = false := habsent
    have hserv' : (s.domain d).inService = true := (Domain.inService_iff _).2 hserv
    have hself' : (s.domain d).selfCount = 0 := hself
    refine takeCommand_effects ht ?_ ?_
    · rw [setFenceCheck_of_args hd (by simp [habsent'])]
      simp [hserv', habsent', hself']
    · simp only [setFenceEffect, hdom, habsent', Bool.false_eq_true, if_false]
      rfl

/-! ## Refused DOMAIN_OPEN, DOMAIN_SET, SET_FENCE and PURGE -/

theorem domainOpenCheck_of_policies {a : Args} {d : DomId} (hd : argField a 0 0 8 = d.val) (h : ¬policiesBad a)
    (s : State) : domainOpenCheck a s = if (s.domain d).state ≠ .unused then some .domainState else none := by
  rw [domainOpenCheck, if_neg (by rw [policiesOk_eq_false_iff]; exact h), argDom_eq hd]

theorem domainSetCheck_of_policies {a : Args} {d : DomId} (hd : argField a 0 0 8 = d.val) (h : ¬policiesBad a)
    (s : State) : domainSetCheck a s =
      if (s.domain d).inService = false then some .domainState
      else if argField a 0 16 5 < (s.domain d).selfCount then some .inUse
      else none := by
  rw [domainSetCheck, if_neg (by rw [policiesOk_eq_false_iff]; exact h), argDom_eq hd]
  rfl

theorem purgeCheck_of_domain {a : Args} {d : DomId} (hd : argField a 0 0 8 = d.val) (s : State) :
    purgeCheck a s = if (s.domain d).inService = false then some .domainState else none := by
  have hrange : ¬15 < argDomain a := by
    have hlt : argDomain a = d.val := hd
    omega
  rw [purgeCheck, if_neg hrange, argDom_eq hd]

/-- Settles O24: each clause is the branch of the check order its conditions select. -/
theorem domainCommandsRefusedInOrder : Obligations.DomainCommandsRefusedInOrder := by
  intro s c number badPolicies present badFence f
  refine ⟨fun ht hbad => takeCommand_refuses ht (if_pos ((policiesOk_eq_false_iff _).2 hbad)),
    fun ht hbad => takeCommand_refuses ht (if_pos ((policiesOk_eq_false_iff _).2 hbad)),
    fun ht hbad => takeCommand_refuses ht (if_pos hbad), fun ht hbad => takeCommand_refuses ht (if_pos hbad),
    ?_⟩
  intro d hd x
  have hserv : inService x.state → (s.domain d).inService = true := (Domain.inService_iff (s.domain d)).2
  have hout : ¬inService x.state → (s.domain d).inService = false := (Domain.inService_eq_false_iff (s.domain d)).2
  refine ⟨fun ht hok hstate => takeCommand_refuses ht ((domainOpenCheck_of_policies hd hok s).trans (if_pos hstate)),
    fun ht hok hstate => takeCommand_refuses ht ((domainSetCheck_of_policies hd hok s).trans (if_pos (hout hstate))),
    fun ht hok hin hself => takeCommand_refuses ht ((domainSetCheck_of_policies hd hok s).trans ?_),
    fun ht hstate => takeCommand_refuses ht ((purgeCheck_of_domain hd s).trans (if_pos (hout hstate))),
    fun ht hargs => ?_⟩
  · have hself' : argField c.args 0 16 5 < (s.domain d).selfCount := hself
    simp [hserv hin, hself']
  have hcheck := setFenceCheck_of_args hd hargs s
  have hgeom : (argFencePresent c.args = true ∧ (argGeometry c.args).ok = false) ↔ badFence :=
    and_congr_right fun _ => argGeometry_ok_eq_false_iff c.args
  refine ⟨fun hstate => ?_, fun hin hbad => ?_, fun hin hfits hpresent hleaves => ?_, fun hin habsent hself => ?_⟩ <;>
    refine takeCommand_refuses ht (hcheck.trans ?_)
  · exact if_pos (hout hstate)
  · rw [if_neg (by simp [hserv hin]), if_pos (hgeom.2 hbad)]
  · have hholds : s.fenceHolds d (argFence c.args) = false := (s.fenceHolds_eq_false_iff d _).2 hleaves
    rw [if_neg (by simp [hserv hin]), if_neg (mt hgeom.1 hfits), if_pos ⟨hpresent, hholds⟩]
  · have habsent' : argFencePresent c.args = false := by simpa [present, argFencePresent] using habsent
    have hself' : 0 < (s.domain d).selfCount := hself
    simp [hserv hin, habsent', hself']

/-! ## FREEZE, THAW, HALT and RELEASE -/

theorem domainStateCheck_of_domain {admits : DomainState → Bool} {a : Args} {d : DomId}
    (hd : argField a 0 0 8 = d.val) (s : State) :
    domainStateCheck admits a s = if admits (s.domain d).state = false then some .domainState else none := by
  have hrange : ¬15 < argDomain a := by
    have hlt : argDomain a = d.val := hd
    omega
  rw [domainStateCheck, if_neg hrange, argDom_eq hd]

/-- A change of a domain's record with its notice (R38). -/
theorem domainChange_eq {f : Domain → Domain} {a : Args} {d : DomId} (hd : argField a 0 0 8 = d.val) (s : State) :
    domainChange f a s =
      ⟨{ s with domains := s.domains.set d (f (s.domains[d])), ports := pended d none s }, .ok, []⟩ := by
  have hports : ((s.modDomain d f).pendNotice d none).ports = pended d none s := State.pendNotice_ports ..
  rw [domainChange, argDom_eq hd, ← hports]
  rfl

/-- A command that changes the state of a domain: its effect when the state admits it, and its refusal otherwise. -/
theorem domainStateCommand {k : Nat} {admits : DomainState → Bool} {f : Domain → Domain} {c : Command} {d : DomId}
    {s : State} (ht : takes k c s) (hd : argField c.args 0 0 8 = d.val) {p : DomainState → Prop}
    (hp : ∀ st, admits st = true ↔ p st) :
    let answer := takeCommand (codeIs k)
      (fun a s => Done.checked (domainStateCheck admits a s) (fun _ => domainChange f a s) s) s
    (p (s.domains[d]).state → answer = .next (commandDone c .ok []
      { s with domains := s.domains.set d (f (s.domains[d])), ports := pended d none s })) ∧
    (¬p (s.domains[d]).state → answer = .next (commandDone c .domainState [] s)) := by
  have hcheck := domainStateCheck_of_domain (admits := admits) hd s
  refine ⟨fun hstate => takeCommand_effects ht (hcheck.trans (if_neg ?_)) (domainChange_eq hd s), fun hstate =>
    takeCommand_refuses ht (hcheck.trans (if_pos ?_))⟩
  · rw [Bool.not_eq_false]
    exact (hp _).2 hstate
  · rw [← Bool.not_eq_true]
    exact mt (hp _).1 hstate

/-- Settles O25: the four commands are one, with the states they accept and the record they write. -/
theorem domainStateCommands : Obligations.DomainStateCommands := by
  intro s c d x becomes
  refine ⟨fun rk hrk ht hbad => ?_, fun hd => ⟨fun ht => ?_, fun ht => ?_, fun ht => ?_, fun ht => ?_⟩⟩
  · simp only [List.mem_cons, List.not_mem_nil, or_false] at hrk
    rcases hrk with rfl | rfl | rfl | rfl
    all_goals exact takeCommand_refuses ht (if_pos hbad)
  · exact domainStateCommand ht hd (p := (· = .active)) fun st => by simp
  · exact domainStateCommand ht hd (p := (· = .frozen)) fun st => by simp
  · exact domainStateCommand ht hd (p := fun st => st = .active ∨ st = .frozen) fun st => by simp
  · exact domainStateCommand ht hd (p := (· = .halted)) fun st => by simp

/-! ## PURGE -/

/-- The removal of all windows of a chain changes windows and domains alone. -/
theorem State.removeAll_tables (d : DomId) (s : State) : s.removeAll d =
    { s with windows := (s.removeAll d).windows, domains := (s.removeAll d).domains } := by
  have hfold : ∀ (is : List SlotId) (s : State), is.foldl (fun s i => s.removeWindow d i) s =
      { s with
        windows := (is.foldl (fun s i => s.removeWindow d i) s).windows
        domains := (is.foldl (fun s i => s.removeWindow d i) s).domains } := by
    intro is
    induction is with
    | nil => exact fun _ => rfl
    | cons i rest ih =>
      intro s
      rw [List.foldl_cons, ih, State.removeWindow_eq]
  conv_lhs => rw [State.removeAll, hfold]
  rfl

/-- The tables after all windows of a chain are removed (R47). -/
theorem State.removeAll_eq (d : DomId) (s : State) : s.removeAll d =
    { s with
      windows := Vector.ofFn fun i => if i ∈ (s.domains[d]).chain then removed (s.windows[i]) else s.windows[i]
      domains := s.domains.set d
        { s.domains[d] with
          chain := []
          selfCount := 0
          drainingCount := (s.domains[d]).drainingCount +
            (s.domains[d]).chain.countP fun i => decide ((s.windows[i]).refs ≠ 0) } } := by
  have hwin : (s.removeAll d).windows =
      Vector.ofFn fun i => if i ∈ (s.domains[d]).chain then removed (s.windows[i]) else s.windows[i] := by
    refine Vector.ext fun i hi => ?_
    rw [Vector.getElem_ofFn]
    exact s.window_removeAll d ⟨i, hi⟩
  have hdom : (s.removeAll d).domains = s.domains.set d
      { s.domains[d] with
        chain := []
        selfCount := 0
        drainingCount := (s.domains[d]).drainingCount +
          (s.domains[d]).chain.countP fun i => decide ((s.windows[i]).refs ≠ 0) } := by
    refine Vector.ext fun e he => ?_
    rw [Vector.getElem_set]
    have hrec := s.domain_removeAll d ⟨e, he⟩
    simp only [Fin.ext_iff] at hrec
    exact hrec
  rw [State.removeAll_tables, hwin, hdom]

/-- The bindings and the notices after all bindings to a domain are gone (R47, R84). -/
theorem State.unbindAll_eq (d : DomId) (s : State) : s.unbindAll d =
    { s with
      bindings := Vector.ofFn fun l => Vector.ofFn fun st =>
        if ((s.bindings[l])[st]).bound = some d then { (s.bindings[l])[st] with bound := none }
        else (s.bindings[l])[st]
      ports := Vector.ofFn fun l =>
        { s.ports[l] with
          noticeSet := Vector.ofFn fun st =>
            (s.ports[l]).noticeSet[st] && !decide (((s.bindings[l])[st]).bound = some d) } } := by
  refine State.eq_of_fields rfl rfl ?_ ?_ rfl rfl rfl rfl rfl rfl rfl rfl rfl rfl
  · refine Vector.ext fun l hl => Vector.ext fun st hst => ?_
    simp [State.unbindAll]
  · simp [State.unbindAll, boundStreams]

/-- Settles O26: the windows and the bindings go, and the draining count decides how the domain ends. -/
theorem purgeEndsDomainOrWaitsForDrain : Obligations.PurgeEndsDomainOrWaitsForDrain := by
  intro s c d x drains ht hd hserv _
  have hcheck : purgeCheck c.args s = none := by
    have hserv' : (s.domain d).inService = true := (Domain.inService_iff _).2 hserv
    rw [purgeCheck_of_domain hd, if_neg (by simp [hserv'])]
  have hcount : (((s.removeAll d).unbindAll d).domain d).drainingCount = drains := by
    have hrec := s.domain_removeAll d d
    rw [if_pos rfl] at hrec
    exact congrArg Domain.drainingCount hrec
  refine takeCommand_effects ht hcheck ?_
  simp only [purgeEffect, argDom_eq hd, hcount]
  rw [State.unbindAll_eq, State.removeAll_eq]
  by_cases hzero : drains = 0
  · simp only [if_pos hzero, State.setDomain, Vector.set_set]
    rfl
  · simp only [if_neg hzero, State.modDomain, State.setDomain, State.domain, Fin.getElem_fin, Vector.getElem_set_self,
      Vector.set_set]
    rfl

end Sys2Proof.Machine
end

section
/-! CERTIFICATES. READ_DOMAIN and READ_CHAIN (R50, R51, R192), and the examinations that count a fault (R33, R34, R68). -/

namespace Sys2Proof.Machine

open Sys2Proof.Spec

/-! ## READ_DOMAIN and READ_CHAIN -/

/-- The first result word of READ_DOMAIN, field by field (R192). -/
theorem domainStateWord_eq (x : Domain) :
    fieldWord 0 3 x.state.num ||| fieldWord 4 2 x.missPolicy.num ||| fieldWord 8 3 x.selfCeiling.toNat
      ||| fieldWord 12 1 x.haltCause.isSome.toNat ||| fieldWord 13 1 x.fence.isSome.toNat
      ||| fieldWord 16 8 x.faultLimit ||| fieldWord 24 8 x.faultCount =
    BitVec.ofNat 8 x.faultCount ++ BitVec.ofNat 8 x.faultLimit ++ 0#2 ++ BitVec.ofBool x.fence.isSome
      ++ BitVec.ofBool x.haltCause.isSome ++ 0#1 ++ permBits x.selfCeiling ++ 0#2
      ++ BitVec.ofNat 2 x.missPolicy.num ++ 0#1 ++ BitVec.ofNat 3 x.state.num := by
  refine BitVec.eq_of_getLsbD_eq fun k hk => ?_
  simp only [BitVec.getLsbD_or, getLsbD_fieldWord_ofNat, ofNat_permsToNat, ofNat_boolToNat, BitVec.getLsbD_append]
  interval_cases k <;> simp

/-- The second result word of READ_DOMAIN: the counts (R192). -/
theorem domainCountsWord_eq (x : Domain) :
    fieldWord 0 5 x.selfAllowance ||| fieldWord 8 5 x.selfCount ||| fieldWord 16 8 x.chain.length
      ||| fieldWord 24 8 x.drainingCount =
    BitVec.ofNat 8 x.drainingCount ++ BitVec.ofNat 8 x.chain.length ++ 0#3 ++ BitVec.ofNat 5 x.selfCount
      ++ 0#3 ++ BitVec.ofNat 5 x.selfAllowance := by
  refine BitVec.eq_of_getLsbD_eq fun k hk => ?_
  simp only [BitVec.getLsbD_or, getLsbD_fieldWord_ofNat, BitVec.getLsbD_append]
  interval_cases k <;> simp

/-- The word that names what halted a domain: fault kind, link and stream (R192). -/
theorem haltCauseWord_eq (h : HaltCause) :
    fieldWord 0 2 h.kind.num ||| fieldWord 8 2 h.link.val ||| fieldWord 16 4 (streamNum h.stream) =
    0#12 ++ BitVec.ofNat 4 (h.stream.val + 1) ++ 0#6 ++ BitVec.ofNat 2 h.link.val ++ 0#6
      ++ BitVec.ofNat 2 h.kind.num := by
  refine BitVec.eq_of_getLsbD_eq fun k hk => ?_
  simp only [streamNum, BitVec.getLsbD_or, getLsbD_fieldWord_ofNat, BitVec.getLsbD_append]
  interval_cases k <;> simp

/-- The word with the size and the target of a fence (R192). -/
theorem fenceWord_eq (f : Fence) : fieldWord 0 8 f.sizeExp ||| fieldWord 16 8 f.target.val =
    0#8 ++ BitVec.ofNat 8 f.target.val ++ 0#8 ++ BitVec.ofNat 8 f.sizeExp := by
  refine BitVec.eq_of_getLsbD_eq fun k hk => ?_
  simp only [BitVec.getLsbD_or, getLsbD_fieldWord_ofNat, BitVec.getLsbD_append]
  interval_cases k <;> simp

/-- The ten result words of READ_DOMAIN (R192). -/
theorem domainWords_eq (x : Domain) : domainWords x =
    [ BitVec.ofNat 8 x.faultCount ++ BitVec.ofNat 8 x.faultLimit ++ 0#2 ++ BitVec.ofBool x.fence.isSome
          ++ BitVec.ofBool x.haltCause.isSome ++ 0#1 ++ permBits x.selfCeiling ++ 0#2
          ++ BitVec.ofNat 2 x.missPolicy.num ++ 0#1 ++ BitVec.ofNat 3 x.state.num,
        BitVec.ofNat 8 x.drainingCount ++ BitVec.ofNat 8 x.chain.length ++ 0#3 ++ BitVec.ofNat 5 x.selfCount
          ++ 0#3 ++ BitVec.ofNat 5 x.selfAllowance ]
      ++ (match x.haltCause with
          | none => [0, 0, 0]
          | some h =>
            (0#12 ++ BitVec.ofNat 4 (h.stream.val + 1) ++ 0#6 ++ BitVec.ofNat 2 h.link.val ++ 0#6
              ++ BitVec.ofNat 2 h.kind.num) :: twoWords (h.addr.setWidth 64))
      ++ (match x.fence with
          | none => [0, 0, 0, 0, 0]
          | some f =>
            (0#8 ++ BitVec.ofNat 8 f.target.val ++ 0#8 ++ BitVec.ofNat 8 f.sizeExp)
              :: (twoWords (f.base.setWidth 64) ++ twoWords f.targetBase)) := by
  unfold domainWords
  simp only [domainStateWord_eq, domainCountsWord_eq, haltCauseWord_eq, fenceWord_eq, pairWords_eq_twoWords,
    BitVec.ofNat_toNat, BitVec.setWidth_eq] <;> rfl

/-- Four bytes in one word. -/
theorem fourBytesWord_eq (b0 b1 b2 b3 : Nat) :
    fieldWord 0 8 b0 ||| fieldWord 8 8 b1 ||| fieldWord 16 8 b2 ||| fieldWord 24 8 b3 =
    BitVec.ofNat 8 b3 ++ BitVec.ofNat 8 b2 ++ BitVec.ofNat 8 b1 ++ BitVec.ofNat 8 b0 := by
  refine BitVec.eq_of_getLsbD_eq fun k hk => ?_
  simp only [BitVec.getLsbD_or, getLsbD_fieldWord_ofNat, BitVec.getLsbD_append]
  interval_cases k <;> simp

/-- Four slot numbers in one word, the first in the low byte (R192). -/
theorem slotsWord_eq (xs : List SlotId) : slotsWord xs =
    BitVec.ofNat 8 ((xs.map (·.val)).getD 3 0) ++ BitVec.ofNat 8 ((xs.map (·.val)).getD 2 0)
      ++ BitVec.ofNat 8 ((xs.map (·.val)).getD 1 0) ++ BitVec.ofNat 8 ((xs.map (·.val)).getD 0 0) :=
  fourBytesWord_eq ..

/-- The first result word of READ_CHAIN: the chain length and the count returned (R192). -/
theorem chainCountsWord_eq (length count : Nat) : fieldWord 0 8 length ||| fieldWord 8 8 count =
    0#16 ++ BitVec.ofNat 8 count ++ BitVec.ofNat 8 length := by
  refine BitVec.eq_of_getLsbD_eq fun k hk => ?_
  simp only [BitVec.getLsbD_or, getLsbD_fieldWord_ofNat, BitVec.getLsbD_append]
  interval_cases k <;> simp

/-- A position of a list's tail is a position of the list. -/
theorem getD_map_drop (xs : List SlotId) (n k : Nat) :
    ((xs.drop n).map (·.val)).getD k 0 = (xs.map (·.val)).getD (n + k) 0 := by
  simp [List.getD_eq_getElem?_getD, List.getElem?_drop]

/-- Settles O27: a domain number in range names the record, or the chain, whose words are returned. -/
theorem domainReadsReturnRecordAndChain : Obligations.DomainReadsReturnRecordAndChain := by
  intro s c
  refine ⟨fun ht hbad => ?_, fun ht hbad => ?_, fun d ht hd hstart => ?_, fun d ht hd => ?_⟩
  · refine (takeCommand_takes (act := readDomainAct) ht).trans ?_
    have hrange : 15 < argDomain c.args := hbad
    simp only [readDomainAct, if_pos hrange, Done.checked_some, Done.refuse_state, Done.refuse_code, Done.refuse_items]
  · refine (takeCommand_takes (act := readChainAct) ht).trans ?_
    have hrange : 15 < argDomain c.args ∨ 127 < argField c.args 0 8 8 := hbad
    simp only [readChainAct, Config.chainStartMax, if_pos hrange, Done.checked_some, Done.refuse_state, Done.refuse_code, Done.refuse_items]
  · have hrange : ¬(15 < argDomain c.args ∨ 127 < argField c.args 0 8 8) := by
      have hlt : argDomain c.args = d.val := hd
      omega
    refine (takeCommand_takes (act := readChainAct) ht).trans ?_
    simp only [readChainAct, Config.chainStartMax, if_neg hrange, Done.checked_none, argDom_eq hd, chainWords,
      chainCountsWord_eq, slotsWord_eq, getD_map_drop]
    rfl
  · have hrange : ¬15 < argDomain c.args := by
      have hlt : argDomain c.args = d.val := hd
      omega
    refine (takeCommand_takes (act := readDomainAct) ht).trans ?_
    simp only [readDomainAct, if_neg hrange, Done.checked_none, argDom_eq hd, domainWords_eq]
    rfl

/-! ## Counting faults -/

theorem countUp_eq (n : Nat) : countUp n = if n < 255 then n + 1 else 255 := by
  simp only [countUp, Config.faultCountMax]
  split <;> omega

/-- A fault below the limit, or without a limit, counts and changes nothing else (R33). -/
theorem State.countFault_below {d : DomId} {s : State}
    (h : (s.domains[d]).faultLimit = 0 ∨ countUp (s.domains[d]).faultCount < (s.domains[d]).faultLimit)
    (kind : FaultKind) (q : Request) : s.countFault d kind q =
      { s with domains := s.domains.set d { s.domains[d] with faultCount := countUp (s.domains[d]).faultCount } } := by
  have hlimit : ¬((s.domains[d]).faultLimit ≠ 0 ∧ (s.domains[d]).faultLimit ≤ countUp (s.domains[d]).faultCount) := by
    omega
  exact if_neg hlimit

/-- A fault that reaches a nonzero limit halts the domain, records its cause, raises DOMAIN_HALTED and pends the notice
(R34, R38, R68). -/
theorem State.countFault_halts {d : DomId} {s : State} (hlimit : (s.domains[d]).faultLimit ≠ 0)
    (hreached : (s.domains[d]).faultLimit ≤ countUp (s.domains[d]).faultCount) (kind : FaultKind) (q : Request) :
    s.countFault d kind q =
      { s with
        domains := s.domains.set d
          { s.domains[d] with
            state := .halted
            faultCount := countUp (s.domains[d]).faultCount
            haltCause := some ⟨kind, q.link, q.stream, q.addr⟩ }
        events := s.events.raiseDom d .domainHalted
        ports := pended d none s } := by
  rw [← State.pendNotice_ports]
  exact if_pos ⟨hlimit, hreached⟩

/-- The rulings that count a fault, and what they answer (the outcome table of section 3.6). -/
abbrev countsFault (r : Ruling) (d : DomId) (kind : FaultKind) (code : ReplyCode) : Prop :=
  (r = .miss d .refuse ∧ kind = .noWindow ∧ code = .noWindow) ∨
    (∃ i, r = .boundary d i ∧ kind = .boundary ∧ code = .boundary) ∨
    (∃ i, r = .access d i ∧ kind = .access ∧ code = .access)

theorem Ruling.plainOutcome_of_countsFault {r : Ruling} {d : DomId} {kind : FaultKind} {code : ReplyCode}
    (h : countsFault r d kind code) : r.plainOutcome = .refused code := by
  obtain ⟨rfl, -, rfl⟩ | ⟨i, rfl, -, rfl⟩ | ⟨i, rfl, -, rfl⟩ := h <;> rfl

theorem State.plainChanges_of_countsFault {r : Ruling} {d : DomId} {kind : FaultKind} {code : ReplyCode}
    (h : countsFault r d kind code) (q : Request) (s : State) : s.plainChanges q r = s.countFault d kind q := by
  obtain ⟨rfl, rfl, -⟩ | ⟨i, rfl, rfl, -⟩ | ⟨i, rfl, rfl, -⟩ := h <;> rfl

/-- Settles O31: the refusal is handed, and the popped state is the one whose domain counts the fault. -/
theorem examinationCountsFaultAndHalts : Obligations.ExaminationCountsFaultAndHalts := by
  intro s l e q rest d kind code hup hq hlink he hk hr t x count answer
  have hcount : countUp (t.domains[d]).faultCount = count := countUp_eq _
  have hexec : exec (.examination l) s = .next (handed l answer (t.countFault d kind q)) := by
    rw [exec_examination hup hq he, State.examine_refused, State.resolutionChanges_plain hk,
      State.plainChanges_of_countsFault hr]
    rw [Ruling.outcome_plain hk]
    exact Ruling.plainOutcome_of_countsFault hr
  subst hlink
  refine ⟨fun hbelow => ?_, fun hlimit hreached => ?_⟩ <;> rw [hexec]
  · rw [State.countFault_below (s := t) (by rwa [hcount]), hcount]
    rfl
  · rw [State.countFault_halts (s := t) hlimit (by rwa [hcount]), hcount]
    rfl

end Sys2Proof.Machine
end

section
/-! CERTIFICATES. The four stages of a resolution with the five checks of the deciding window (R56 to R65), and the
examination that admits its request into the tracker (R66, R67, R90). -/

namespace Sys2Proof.Machine

open Sys2Proof.Spec

/-! ## The deciding window -/

theorem covers_iff (w : Window) (a : InAddr) : covers w.base w.sizeExp a.toNat = true ↔ coversByte w a := by
  have hsize : 0 < 2 ^ w.sizeExp := Nat.two_pow_pos _
  simp only [covers, Bool.and_eq_true, decide_eq_true_eq]
  exact and_congr_right fun _ => by omega

/-- A chain has no deciding window when no window of it covers the first byte (R59). -/
theorem State.decidingWindow_eq_none {s : State} {d : DomId} {a : InAddr}
    (h : ∀ j ∈ (s.domain d).chain, ¬coversByte (s.window j) a) : s.decidingWindow d a = none :=
  List.find?_eq_none.2 fun j hj => mt (covers_iff _ a).1 (h j hj)

/-- The first window in chain order that covers the first byte decides (R59). -/
theorem State.decidingWindow_eq_some {s : State} {d : DomId} {a : InAddr} {i : SlotId} {pre post : List SlotId}
    (hchain : (s.domain d).chain = pre ++ i :: post) (hpre : ∀ j ∈ pre, ¬coversByte (s.window j) a)
    (hi : coversByte (s.window i) a) : s.decidingWindow d a = some i := by
  refine List.find?_eq_some_iff_append.2 ⟨(covers_iff _ a).2 hi, pre, post, hchain, fun j hj => ?_⟩
  simpa using mt (covers_iff _ a).1 (hpre j hj)

/-! ## The checks of the deciding window in the words of the rules -/

theorem Window.permits_iff (w : Window) (k : ReqKind) : w.permits k = true ↔
    (k = .wr ∧ w.perms.write = true) ∨ (k = .rd ∧ w.perms.read = true) ∨
      (k = .rds ∧ w.perms.read = true ∧ w.perms.speculative = true) := by
  cases k <;> simp [Window.permits]

theorem Window.affords_iff (w : Window) (len : Nat) : w.affords len = true ↔ ∀ b ∈ w.budget, len ≤ b.remaining := by
  unfold Window.affords
  cases w.budget <;> simp

theorem TargetState.eq_offline_iff (x : TargetState) : x = .offline ↔ x ≠ .online := by
  cases x <;> simp

/-- The five checks in order, each condition in the words of R61 to R65. -/
theorem State.windowRuling_checks (s : State) (d : DomId) (i : SlotId) (q : Request) :
    let w := s.window i
    let ends := w.base.toNat + 2 ^ w.sizeExp - 1
    let last := q.addr.toNat + q.length - 1
    let permitted := w.permits q.kind = true
    let online := s.target w.target = .online
    let affordable := w.affords q.length = true
    (w.state ≠ .live → s.windowRuling d i q = .suspended d i) ∧
    (w.state = .live → ends < last → s.windowRuling d i q = .boundary d i) ∧
    (w.state = .live → last ≤ ends → ¬permitted → s.windowRuling d i q = .access d i) ∧
    (w.state = .live → last ≤ ends → permitted → ¬online → s.windowRuling d i q = .targetOffline d i) ∧
    (w.state = .live → last ≤ ends → permitted → online → ¬affordable → s.windowRuling d i q = .budget d i) ∧
    (w.state = .live → last ≤ ends → permitted → online → affordable → s.windowRuling d i q = .admits d i) := by
  intro w ends last permitted online affordable
  have hsize : 0 < 2 ^ w.sizeExp := Nat.two_pow_pos _
  have hbound : w.base.toNat + 2 ^ w.sizeExp ≤ q.addr.toNat + q.length - 1 ↔ ends < last := by omega
  have hperm : w.permits q.kind = false ↔ ¬permitted := by simp [permitted]
  have htarget : s.target w.target = .offline ↔ ¬online := TargetState.eq_offline_iff _
  have hfunds : w.affords q.length = false ↔ ¬affordable := by simp [affordable]
  have hchecks : s.windowRuling d i q =
      if w.state ≠ .live then .suspended d i
      else if ends < last then .boundary d i
      else if ¬permitted then .access d i
      else if ¬online then .targetOffline d i
      else if ¬affordable then .budget d i
      else .admits d i := by
    simp only [← hbound, ← hperm, ← htarget, ← hfunds]
    rfl
  rw [hchecks]
  refine ⟨fun hs => if_pos hs, fun hl hb => ?_, fun hl hb hp => ?_, fun hl hb hp ho => ?_, fun hl hb hp ho ha => ?_,
    fun hl hb hp ho ha => ?_⟩ <;> rw [if_neg (not_not.2 hl)]
  · exact if_pos hb
  all_goals rw [if_neg (not_lt.2 hb)]
  · exact if_pos hp
  all_goals rw [if_neg (not_not.2 hp)]
  · exact if_pos ho
  all_goals rw [if_neg (not_not.2 ho)]
  · exact if_pos ha
  · exact if_neg (not_not.2 ha)

/-! ## The stages -/

theorem State.ruling_disabled {s : State} {q : Request} (h : (s.stream q.link q.stream).enabled = false) :
    s.ruling q = .noStream :=
  if_pos h

theorem State.ruling_unbound {s : State} {q : Request} (he : (s.stream q.link q.stream).enabled = true)
    (hb : (s.stream q.link q.stream).bound = none) :
    s.ruling q = .unbound (s.stream q.link q.stream).unboundPolicy := by
  simp [State.ruling, he, hb]

/-- The stages of a request on an enabled and bound stream (R58 to R60). -/
theorem State.ruling_of_bound {s : State} {q : Request} {d : DomId}
    (he : (s.stream q.link q.stream).enabled = true) (hb : (s.stream q.link q.stream).bound = some d) :
    s.ruling q =
      if (s.domain d).state = .halted then .halted
      else (s.decidingWindow d q.addr).elim (.miss d (s.domain d).missPolicy) fun i => s.windowRuling d i q := by
  simp only [State.ruling, he, hb, Bool.true_eq_false, if_false]
  cases s.decidingWindow d q.addr <;> rfl

/-- Settles O29: the stream, the domain and the deciding window select the stage, and the window's checks the rest. -/
theorem resolutionStagesInOrder : Obligations.ResolutionStagesInOrder := by
  intro s q x
  refine ⟨State.ruling_disabled, State.ruling_unbound, fun he d hb => ?_⟩
  intro dom
  have hbound := State.ruling_of_bound he hb
  refine ⟨fun hhalted => hbound.trans (if_pos hhalted), fun hserving => ?_⟩
  have hrunning : (s.domain d).state ≠ .halted := by
    rcases hserving with hstate | hstate <;> rw [show (s.domain d).state = _ from hstate] <;> decide
  rw [if_neg hrunning] at hbound
  refine ⟨fun hmiss => ?_, fun i pre post hchain hpre hi => ?_⟩
  · rw [hbound, State.decidingWindow_eq_none hmiss]
    rfl
  · rw [State.decidingWindow_eq_some hchain hpre hi] at hbound
    have hchecks := s.windowRuling_checks d i q
    simp only [Window.permits_iff, Window.affords_iff] at hchecks
    rw [hbound]
    exact hchecks

/-! ## The admission -/

/-- An admission of `len` bytes takes what remains of the window's budget (R12). -/
abbrev Window.spends (w : Window) (len : Nat) : Prop := ∃ b ∈ w.budget, b.remaining - len = 0

/-- A window's record after the charge of `len` bytes and the reference, with its alert as it was (R66, R8). -/
def Window.referenced (w : Window) (len : Nat) : Window :=
  { w with
    budget := w.budget.map fun b => { b with remaining := b.remaining - len }
    refs := w.refs + 1 }

theorem Window.charged_of_spends {w : Window} {len : Nat} (h : w.spends len) : w.charged len =
    { w.referenced len with alert := true } := by
  obtain ⟨b, hb, hz⟩ := h
  simp [Window.charged, Window.referenced, Option.mem_def.1 hb, hz]

theorem Window.charged_of_not_spends {w : Window} {len : Nat} (h : ¬w.spends len) : w.charged len = w.referenced len := by
  have halert : (w.budget.any fun b => decide (b.remaining - len = 0)) = false := by
    cases hb : w.budget with
    | none => rfl
    | some b => exact decide_eq_false fun hz => h ⟨b, hb, hz⟩
  simp only [Window.charged, Window.referenced, halert, Bool.or_false]

/-- The charge and the reference, then the alert if nothing remains (R12). -/
theorem State.charge_eq_setAlert (i : SlotId) (len : Nat) (s : State) : s.charge i len =
    if (s.window i).spends len then (s.setWindow i ((s.window i).referenced len)).setAlert i
    else s.setWindow i ((s.window i).referenced len) := by
  unfold State.charge
  dsimp only
  split
  · next hb =>
    rw [if_neg (by simp [Window.spends, hb])]
    rfl
  · next b hb =>
    have hspends : (s.window i).spends len ↔ b.remaining - len = 0 := by simp [Window.spends, hb]
    simp only [hspends]
    rfl

/-- An admission charges and references its window, and raises BUDGET_SPENT when it spends the budget of a window whose
alert was clear (R66, R12, R8). -/
theorem State.charge_eq (i : SlotId) (len : Nat) (s : State) : s.charge i len =
    { s with
      windows := s.windows.set i ((s.window i).charged len)
      events :=
        if (s.window i).spends len ∧ (s.window i).alert = false then
          s.events.raiseDom (s.window i).domain .budgetSpent
        else s.events } := by
  rw [State.charge_eq_setAlert]
  by_cases hs : (s.window i).spends len
  · have hrec : (s.setWindow i ((s.window i).referenced len)).windows[i] = (s.window i).referenced len :=
      Vector.getElem_set_self i.isLt
    have hclear : (if (s.window i).alert = true then s.events else s.events.raiseDom (s.window i).domain .budgetSpent) =
        if (s.window i).alert = false then s.events.raiseDom (s.window i).domain .budgetSpent else s.events := by
      cases (s.window i).alert <;> rfl
    rw [if_pos hs, State.setAlert_eq, hrec, Window.charged_of_spends hs]
    simp only [hs, true_and, ← hclear, State.setWindow, Vector.set_set]
    rfl
  · rw [if_neg hs, Window.charged_of_not_spends hs, if_neg fun h => hs h.1]
    rfl

/-- An examination whose resolution admits charges the window and enters the reserved entry (R66, R90). -/
theorem State.examine_admits {s : State} {l : LinkId} {e : EntryNo} {q : Request} {rest : List Request} {d : DomId}
    {i : SlotId} (h : s.ruling q = .admits d i) :
    s.examine l e q rest = ((popped l rest s).charge i q.length).enterTracker l e (s.admitted q i) := by
  simp only [State.examine, h, Ruling.outcome_admits, State.resolutionChanges_admits]
  rfl

/-- Settles O32: the charge gives the window and the events, the entry and its place in the waiting list the rest. -/
theorem examinationAdmitsIntoTracker : Obligations.ExaminationAdmitsIntoTracker := by
  intro s l e q rest d i hup hq _ he hr t w spent
  refine ⟨_, (exec_examination hup hq he).trans (by rw [State.examine_admits hr, State.charge_eq]), fun hs => ?_,
    fun hs => ?_, fun hs ha => ?_, fun hno => ?_, rfl⟩
  · exact congrArg (s.windows.set i) (Window.charged_of_spends hs)
  · exact congrArg (s.windows.set i) (Window.charged_of_not_spends hs)
  · exact if_pos ⟨hs, ha⟩
  · exact if_neg hno

end Sys2Proof.Machine
end

section
/-! CERTIFICATES. The binding commands BIND, UNBIND and STREAM_SET (04_streams_and_bindings.md section 4.3): the entry
each writes, and the first check that refuses it. -/

namespace Sys2Proof.Machine

open Sys2Proof.Spec

/-! ## The stream entry the arguments name (R75, R192) -/

theorem argLink_eq {a : Args} {l : LinkId} (hl : argField a 0 0 8 = l.val) : argLink a = l := ofNat_eq_of_val hl

theorem not_three_lt_argLinkNo {a : Args} {l : LinkId} (hl : argField a 0 0 8 = l.val) : ¬3 < argLinkNo a := by
  rw [argLinkNo, hl]
  omega

theorem streamOf?_argStreamNo {a : Args} {st : DataStream} (hst : argField a 0 8 8 = st.val + 1) :
    streamOf? (argStreamNo a) = some st := by
  rw [argStreamNo, hst, streamOf?_streamNum]

/-! ## The checks in order (R79, R80, R81) -/

section Checks

variable {a : Args} {l : LinkId} {st : DataStream}

theorem bindCheck_noStream (hl : ¬3 < argField a 0 0 8) (hst : argField a 0 8 8 = 0 ∨ 15 < argField a 0 8 8) (s : State) :
    bindCheck a s = some .badStream := by
  simp only [bindCheck, argLinkNo, argStreamNo, if_neg hl, (streamOf?_eq_none _).2 hst]

theorem unbindCheck_noStream (hl : ¬3 < argField a 0 0 8) (hst : argField a 0 8 8 = 0 ∨ 15 < argField a 0 8 8)
    (s : State) : unbindCheck a s = some .badStream := by
  simp only [unbindCheck, argLinkNo, argStreamNo, if_neg hl, (streamOf?_eq_none _).2 hst]

theorem streamSetCheck_noStream (hargs : ¬(3 < argField a 0 0 8 ∨ 1 < argField a 0 16 2 ∨ 1 < argField a 0 20 2))
    (hst : argField a 0 8 8 = 0 ∨ 15 < argField a 0 8 8) (s : State) : streamSetCheck a s = some .badStream := by
  simp only [streamSetCheck, argLinkNo, argStreamNo, if_neg hargs, (streamOf?_eq_none _).2 hst]

/-- The checks of BIND behind the link and the stream. -/
theorem bindCheck_of_stream (hl : argField a 0 0 8 = l.val) (hst : argField a 0 8 8 = st.val + 1) (s : State) :
    bindCheck a s =
      if 15 < argField a 0 16 8 then some .badArgument
      else if (s.domain (Fin.ofNat 16 (argField a 0 16 8))).inService = false then some .domainState
      else if (s.stream l st).bound ≠ none then some .inUse
      else none := by
  simp only [bindCheck, if_neg (not_three_lt_argLinkNo hl), streamOf?_argStreamNo hst, argLink_eq hl]

/-- The checks of BIND behind its arguments. -/
theorem bindCheck_of_domain {d : DomId} (hl : argField a 0 0 8 = l.val) (hst : argField a 0 8 8 = st.val + 1)
    (hd : argField a 0 16 8 = d.val) (s : State) :
    bindCheck a s =
      if (s.domain d).inService = false then some .domainState
      else if (s.stream l st).bound ≠ none then some .inUse
      else none := by
  rw [bindCheck_of_stream hl hst, if_neg (by omega), ofNat_eq_of_val hd]

/-- The check of UNBIND behind the link and the stream. -/
theorem unbindCheck_of_stream (hl : argField a 0 0 8 = l.val) (hst : argField a 0 8 8 = st.val + 1) (s : State) :
    unbindCheck a s = if (s.stream l st).bound = none then some .badStream else none := by
  simp only [unbindCheck, if_neg (not_three_lt_argLinkNo hl), streamOf?_argStreamNo hst, argLink_eq hl]

theorem streamSetCheck_of_stream (hargs : ¬(3 < argField a 0 0 8 ∨ 1 < argField a 0 16 2 ∨ 1 < argField a 0 20 2))
    (hst : argField a 0 8 8 = st.val + 1) (s : State) : streamSetCheck a s = none := by
  simp only [streamSetCheck, argLinkNo, if_neg hargs, streamOf?_argStreamNo hst]

/-! ## The entries written -/

theorem bindEffect_eq {d : DomId} (hl : argField a 0 0 8 = l.val) (hst : argField a 0 8 8 = st.val + 1)
    (hd : argField a 0 16 8 = d.val) (s : State) :
    bindEffect a s = ⟨s.setStream l st { s.stream l st with bound := some d }, .ok, []⟩ := by
  simp only [bindEffect, streamOf?_argStreamNo hst, argLink_eq hl, ofNat_eq_of_val hd]

theorem unbindEffect_eq (hl : argField a 0 0 8 = l.val) (hst : argField a 0 8 8 = st.val + 1) (s : State) :
    unbindEffect a s =
      ⟨(s.setStream l st { s.stream l st with bound := none }).modPort l fun p =>
          { p with noticeSet := p.noticeSet.set st false }, .ok, []⟩ := by
  simp only [unbindEffect, streamOf?_argStreamNo hst, argLink_eq hl]

theorem streamSetEffect_eq (hl : argField a 0 0 8 = l.val) (hst : argField a 0 8 8 = st.val + 1)
    (hpolicy : argField a 0 20 2 ≤ 1) (s : State) :
    streamSetEffect a s =
      ⟨s.setStream l st
          { s.stream l st with
            enabled := decide (argField a 0 16 2 = 1)
            unboundPolicy := if argField a 0 20 2 = 1 then .absorb else .refuse }, .ok, []⟩ := by
  have hnum : (if argField a 0 20 2 = 0 then UnboundPolicy.refuse else .absorb) =
      if argField a 0 20 2 = 1 then .absorb else .refuse := by
    split_ifs with hrefuse habsorb
    · omega
    · rfl
    · rfl
    · omega
  simp only [streamSetEffect, streamOf?_argStreamNo hst, argLink_eq hl, hnum]

end Checks

/-- Settles O28: the link and the stream name the entry, and the checks behind them select its refusal or its write. -/
theorem bindingCommandsWriteOneEntry : Obligations.BindingCommandsWriteOneEntry := by
  intro s c stream domain
  refine ⟨?badLink, ?badStream, fun ht hargs => takeCommand_refuses ht (if_pos hargs),
    fun ht hl he hp hst => takeCommand_refuses ht (streamSetCheck_noStream (by omega) hst s), fun l st hl hst => ?entry⟩
  case badLink =>
    exact List.forall_mem_cons.2 ⟨fun ht hl => takeCommand_refuses ht (if_pos hl),
      List.forall_mem_singleton.2 fun ht hl => takeCommand_refuses ht (if_pos hl)⟩
  case badStream =>
    exact List.forall_mem_cons.2 ⟨fun ht hl hst => takeCommand_refuses ht (bindCheck_noStream (not_lt.2 hl) hst s),
      List.forall_mem_singleton.2 fun ht hl hst => takeCommand_refuses ht (unbindCheck_noStream (not_lt.2 hl) hst s)⟩
  case entry =>
    intro x writes
    refine ⟨fun ht hd => takeCommand_refuses ht ((bindCheck_of_stream hl hst s).trans (if_pos hd)),
      fun d hd ht => ?bind, fun ht => ?unbind, fun ht he hp => ?streamSet⟩
    case bind =>
      have hcheck := bindCheck_of_domain hl hst hd s
      have hin : inService (s.domains[d]).state → ¬(s.domain d).inService = false := fun hserv hout =>
        (Domain.inService_eq_false_iff _).1 hout hserv
      refine ⟨fun hout => takeCommand_refuses ht (hcheck.trans (if_pos ((Domain.inService_eq_false_iff _).2 hout))),
        fun hserv hbound => takeCommand_refuses ht (hcheck.trans ?_),
        fun hserv hbound => takeCommand_effects ht (hcheck.trans ?_) (bindEffect_eq hl hst hd s)⟩
      · exact (if_neg (hin hserv)).trans (if_pos hbound)
      · exact (if_neg (hin hserv)).trans (if_neg (not_not.2 hbound))
    case unbind =>
      have hcheck := unbindCheck_of_stream hl hst s
      exact ⟨fun hbound => takeCommand_refuses ht (hcheck.trans (if_pos hbound)),
        fun hbound => takeCommand_effects ht (hcheck.trans (if_neg hbound)) (unbindEffect_eq hl hst s)⟩
    case streamSet =>
      exact takeCommand_effects ht (streamSetCheck_of_stream (by omega) hst s) (streamSetEffect_eq hl hst hp s)

end Sys2Proof.Machine
end

section
/-! CERTIFICATES. The writes to the event and enable registers (10_management_port_and_events.md) and to the
unbound-arrival sets (R78). -/

namespace Sys2Proof.Machine

/-! ## Writes to the event unit, field by field of the written word (R181, R183, R184, R194) -/

theorem EventUnit.clear_device (v : Word) (u : EventUnit) :
    u.clear .device v = { u with devLatch := u.devLatch &&& ~~~(v.extractLsb' 0 6) } := by
  rw [EventUnit.clear, BitVec.setWidth_eq_extractLsb' (by decide)]

theorem EventUnit.clear_link (l : LinkId) (v : Word) (u : EventUnit) :
    u.clear (.link l) v =
      { u with linkLatch := u.linkLatch.set l (u.linkLatch[l] &&& ~~~(v.extractLsb' 0 4)) } := by
  rw [EventUnit.clear, BitVec.setWidth_eq_extractLsb' (by decide)]

theorem EventUnit.clear_domain (d : DomId) (v : Word) (u : EventUnit) :
    u.clear (.domain d) v =
      { u with domLatch := u.domLatch.set d (u.domLatch[d] &&& ~~~(v.extractLsb' 0 5)) } := by
  rw [EventUnit.clear, BitVec.setWidth_eq_extractLsb' (by decide)]

theorem EventUnit.writeEnable_device (v : Word) (u : EventUnit) :
    u.writeEnable .device v = { u with devEnable := v.extractLsb' 0 6 } := by
  rw [EventUnit.writeEnable, BitVec.setWidth_eq_extractLsb' (by decide)]

theorem EventUnit.writeEnable_link (l : LinkId) (v : Word) (u : EventUnit) :
    u.writeEnable (.link l) v = { u with linkEnable := u.linkEnable.set l (v.extractLsb' 0 4) } := by
  rw [EventUnit.writeEnable, BitVec.setWidth_eq_extractLsb' (by decide)]

theorem EventUnit.writeEnable_domain (d : DomId) (v : Word) (u : EventUnit) :
    u.writeEnable (.domain d) v = { u with domEnable := u.domEnable.set d (v.extractLsb' 0 5) } := by
  rw [EventUnit.writeEnable, BitVec.setWidth_eq_extractLsb' (by decide)]

theorem State.writeSummaryEnable_eq (v : Word) (s : State) :
    s.writeSummaryEnable v = s.setEvents { s.events with sumEnable := v.extractLsb' 0 20 } := by
  rw [State.writeSummaryEnable, BitVec.setWidth_eq_extractLsb' (by decide)]

theorem exec_eventClear {r : EventReg} {v : Word} {s : State} {u : EventUnit} (h : s.events.clear r v = u) :
    exec (.eventClear r v) s = .next { s with events := u } := h ▸ rfl

theorem exec_eventEnableWrite {r : EventReg} {v : Word} {s : State} {u : EventUnit} (h : s.events.writeEnable r v = u) :
    exec (.eventEnableWrite r v) s = .next { s with events := u } := h ▸ rfl

/-- Settles O11: the register written selects the latches or enables that the word changes. -/
theorem eventAndSetWritesTouchTheirRegister : Obligations.EventAndSetWritesTouchTheirRegister := fun s v =>
  ⟨exec_eventClear (EventUnit.clear_device v _), fun l => exec_eventClear (EventUnit.clear_link l v _),
    fun d => exec_eventClear (EventUnit.clear_domain d v _),
    exec_eventEnableWrite (EventUnit.writeEnable_device v _),
    fun l => exec_eventEnableWrite (EventUnit.writeEnable_link l v _),
    fun d => exec_eventEnableWrite (EventUnit.writeEnable_domain d v _),
    congrArg Host.Outcome.next (State.writeSummaryEnable_eq v s), fun _ => rfl⟩

end Sys2Proof.Machine
end

section
/-! CERTIFICATES. A link that leaves UP (R169, R105, R126, R156): what the end of its tracker entries leaves in each
table, and the whole state afterwards. -/

namespace Sys2Proof.Machine

open Sys2Proof.Spec

/-! ## The end of one entry, table by table -/

/-- The end of an entry changes the waiting list of its own link alone (R98). -/
theorem State.waitList_endEntry_of_ne {fate : TagFate} {l m : LinkId} {e : EntryNo} {s : State} (h : l ≠ m) :
    (s.endEntry fate l e).waitList m = s.waitList m := by
  cases hx : s.entry l e with
  | free => rw [State.endEntry_free hx]
  | waitTag r =>
    rw [State.endEntry_waitTag hx, State.waitList_eq, State.dropRef_waiting, ← State.waitList_eq,
      State.waitList_setWaiting, if_neg h]
    rfl
  | issued r g dl =>
    rw [State.endEntry_issued hx, State.waitList_eq, State.dropRef_waiting]
    rfl

/-- The end of an entry changes nothing at the Fabric Request Unit but a tag. -/
theorem State.fabric_endEntry (fate : TagFate) (l : LinkId) (e : EntryNo) (s : State) :
    (s.endEntry fate l e).fabric = { s.fabric with tags := (s.endEntry fate l e).fabric.tags } := by
  cases hx : s.entry l e with
  | free => rw [State.endEntry_free hx]
  | waitTag r =>
    rw [State.endEntry_waitTag hx, State.dropRef_fabric]
    rfl
  | issued r g dl =>
    rw [State.endEntry_issued hx, State.dropRef_fabric]
    rfl

/-- The tag of an ISSUED entry that ends goes where its fate says; every other tag stays (R97, R99, R105). -/
theorem State.tag_endEntry_issued {fate : TagFate} {l : LinkId} {e : EntryNo} {s : State} {r : EntryReq} {g : TagNo}
    {dl : Nat} (h : s.entry l e = .issued r g dl) (u : TagNo) :
    (s.endEntry fate l e).tag u = if g = u then fate.cond r.target else s.tag u := by
  rw [State.endEntry_issued h, State.tag_eq, State.dropRef_fabric, ← State.tag_eq, State.tag_setTag]
  rfl

/-- An entry that is not ISSUED holds no tag, so its end changes none (R86). -/
theorem State.tag_endEntry_of_not_issued {fate : TagFate} {l : LinkId} {e : EntryNo} {s : State}
    (h : (s.entry l e).tag? = none) (u : TagNo) : (s.endEntry fate l e).tag u = s.tag u := by
  cases hx : s.entry l e with
  | free => rw [State.endEntry_free hx]
  | waitTag r =>
    rw [State.endEntry_waitTag hx, State.tag_eq, State.dropRef_fabric]
    rfl
  | issued r g dl => simp [hx, Entry.tag?] at h

/-- The tag that the ended entry holds (R92). -/
theorem State.tag_endEntry_of_held {fate : TagFate} {l : LinkId} {e : EntryNo} {s : State} {u : TagNo}
    (htags : tagsHeldByIssued s) (h : s.tag u = .held l e) :
    ∃ r dl, s.entry l e = .issued r u dl ∧ (s.endEntry fate l e).tag u = fate.cond r.target := by
  obtain ⟨hheld, -⟩ := htags
  obtain ⟨r, dl, hr⟩ := hheld u l e h
  exact ⟨r, dl, hr, by rw [State.tag_endEntry_issued hr, if_pos rfl]⟩

/-- A tag that the ended entry does not hold stays (R92). -/
theorem State.tag_endEntry_of_not_held {fate : TagFate} {l : LinkId} {e : EntryNo} {s : State} {u : TagNo}
    (htags : tagsHeldByIssued s) (h : s.tag u ≠ .held l e) : (s.endEntry fate l e).tag u = s.tag u := by
  obtain ⟨-, hissued⟩ := htags
  cases hx : s.entry l e with
  | issued r g dl =>
    rw [State.tag_endEntry_issued hx, if_neg]
    rintro rfl
    exact h (hissued _ _ _ _ _ hx)
  | free | waitTag => exact State.tag_endEntry_of_not_issued (by rw [hx]; rfl) u

theorem TagFate.cond_ne_held (fate : TagFate) (x : TargetId) (l : LinkId) (e : EntryNo) : fate.cond x ≠ .held l e := by
  cases fate <;> simp [TagFate.cond]

/-- The end of an entry keeps the law of the tags: the entry that held the tag is FREE, the tag is not held (R92). -/
theorem State.endEntry_keeps_tagsHeldByIssued (fate : TagFate) (l : LinkId) (e : EntryNo) {s : State}
    (htags : tagsHeldByIssued s) : tagsHeldByIssued (s.endEntry fate l e) := by
  have ⟨hheld, hissued⟩ := htags
  have hkept : ∀ {u m f}, s.tag u = .held m f → (m, f) ≠ (l, e) →
      (s.endEntry fate l e).tag u = .held m f ∧ (s.endEntry fate l e).entry m f = s.entry m f := by
    intro u m f hu hmf
    have hne : ¬(l = m ∧ e = f) := fun ⟨hl, he⟩ => hmf (by rw [hl, he])
    refine ⟨?_, by rw [State.entry_endEntry, if_neg hne]⟩
    rw [State.tag_endEntry_of_not_held htags, hu]
    simpa [hu, eq_comm] using hne
  constructor
  · intro u m f hu
    by_cases hle : s.tag u = .held l e
    · obtain ⟨r, dl, -, hcond⟩ := State.tag_endEntry_of_held (fate := fate) htags hle
      exact absurd (hcond.symm.trans hu) (TagFate.cond_ne_held fate r.target m f)
    · rw [State.tag_endEntry_of_not_held htags hle] at hu
      have hmf : (m, f) ≠ (l, e) := by
        rintro ⟨⟩
        exact hle hu
      rw [(hkept hu hmf).2]
      exact hheld u m f hu
  · intro u m f r dl hr
    rw [State.entry_endEntry] at hr
    split at hr
    · cases hr
    · next hne =>
      exact (hkept (hissued u m f r dl hr) (fun h => hne (by cases h; exact ⟨rfl, rfl⟩))).1

/-! ## The end of a list of entries of one link, table by table -/

section
variable {l : LinkId} {es : List EntryNo}

theorem State.foldl_endEntry_append (l : LinkId) (es : List EntryNo) (e : EntryNo) (s : State) :
    (es ++ [e]).foldl (fun s e => s.endEntry .quarantined l e) s =
      (es.foldl (fun s e => s.endEntry .quarantined l e) s).endEntry .quarantined l e := by
  rw [List.foldl_append, List.foldl_cons, List.foldl_nil]

/-- Entries of one link that end leave the records as the drops of their references do (R98). -/
theorem State.foldl_endEntry_sameRecords (hn : es.Nodup) (s : State) :
    (dropAll ((es.filterMap fun e => (s.entry l e).request?).map (·.window)) s).SameRecords
      (es.foldl (fun s e => s.endEntry .quarantined l e) s) := by
  induction es using List.reverseRecOn with
  | nil => exact .refl s
  | append_singleton es e ih =>
    obtain ⟨hn, he⟩ := nodup_of_append_singleton hn
    have hentry : (es.foldl (fun s e => s.endEntry .quarantined l e) s).entry l e = s.entry l e := by
      rw [State.entry_foldl_endEntry, if_neg fun h => he h.2]
    rw [State.foldl_endEntry_append, List.filterMap_append]
    obtain hx | ⟨r, hr⟩ := (s.entry l e).free_or_request
    · rw [State.endEntry_free (hentry.trans hx)]
      simpa [hx, Entry.request?] using ih hn
    · have hend := State.endEntry_sameRecords (fate := .quarantined)
        (s := es.foldl (fun s e => s.endEntry .quarantined l e) s) (by rw [hentry, hr])
      simp only [List.filterMap_cons, hr, List.filterMap_nil, List.map_append, List.map_cons, List.map_nil, dropAll,
        List.foldl_append, List.foldl_cons, List.foldl_nil]
      exact ((ih hn).dropRef r.window).trans hend

/-- The tags after entries of one link have ended: those they held are quarantined against their targets (R105). -/
theorem State.tag_foldl_endEntry {s : State} (htags : tagsHeldByIssued s) (u : TagNo) :
    (es.foldl (fun s e => s.endEntry .quarantined l e) s).tag u =
      match s.tag u with
      | .free => .free
      | .quarantined x => .quarantined x
      | .held m f =>
        if m = l ∧ f ∈ es then
          match (s.entry m f).request? with
          | none => .held m f
          | some r => .quarantined r.target
        else .held m f := by
  induction es generalizing s with
  | nil => cases hu : s.tag u <;> simp [hu]
  | cons e rest ih =>
    rw [List.foldl_cons, ih (State.endEntry_keeps_tagsHeldByIssued _ l e htags)]
    by_cases hle : s.tag u = .held l e
    · obtain ⟨r, dl, hr, hcond⟩ := State.tag_endEntry_of_held (fate := .quarantined) htags hle
      simp [hcond, hle, hr, TagFate.cond, Entry.request?]
    · rw [State.tag_endEntry_of_not_held htags hle]
      cases hu : s.tag u with
      | free | quarantined => rfl
      | held m f =>
        have hne : ¬(l = m ∧ e = f) := fun ⟨hl, he⟩ => hle (by rw [hu, hl, he])
        have hmem : m = l ∧ f ∈ e :: rest ↔ m = l ∧ f ∈ rest := by
          simp only [List.mem_cons, and_congr_right_iff, or_iff_right_iff_imp]
          exact fun hm hf => absurd ⟨hm.symm, hf.symm⟩ hne
        simp only [State.entry_endEntry, if_neg hne, hmem]

end

theorem State.foldl_endEntry_fabric (l : LinkId) (es : List EntryNo) (s : State) :
    (es.foldl (fun s e => s.endEntry .quarantined l e) s).fabric =
      { s.fabric with tags := (es.foldl (fun s e => s.endEntry .quarantined l e) s).fabric.tags } := by
  induction es using List.reverseRecOn with
  | nil => rfl
  | append_singleton es e ih => rw [State.foldl_endEntry_append, State.fabric_endEntry, ih]

/-! ## The link leaves UP -/

/-- What neither the ports, the engine nor the events hold is after leaving UP as after the end of the entries. -/
theorem State.leaveUp_reads {α : Type} {read : State → α}
    (hport : ∀ (l : LinkId) (p : LinkPort) (t : State), read (t.setPort l p) = read t)
    (hengine : ∀ (x : Engine) (t : State), read (t.setEngine x) = read t)
    (hevents : ∀ (u : EventUnit) (t : State), read (t.setEvents u) = read t) (l : LinkId) (s : State) :
    read (s.leaveUp l) = read (s.endLinkEntries l) := by
  unfold State.leaveUp
  dsimp only
  split
  · rw [State.raiseDev, hevents, State.raiseLink, hevents, hengine, State.modPort, hport]
  · rw [State.raiseLink, hevents, hengine, State.modPort, hport]

/-- The link's waiting list is empty, and every other list stays (R105). -/
theorem State.waitList_leaveUp (l m : LinkId) (s : State) :
    (s.leaveUp l).waitList m = if l = m then [] else s.waitList m := by
  rw [State.leaveUp_reads (read := (·.waitList m)) (fun _ _ _ => rfl) (fun _ _ => rfl) (fun _ _ => rfl),
    State.endLinkEntries, State.waitList_setWaiting]
  by_cases hlm : l = m
  · rw [if_pos hlm, if_pos hlm]
  · rw [if_neg hlm, if_neg hlm]
    exact State.foldl_endEntry_keeps (·.waitList m) .quarantined l (fun t e => State.waitList_endEntry_of_ne hlm) _ s

/-- The Fabric Request Unit keeps all but the tags. -/
theorem State.fabric_leaveUp (l : LinkId) (s : State) :
    (s.leaveUp l).fabric = { s.fabric with tags := (s.leaveUp l).fabric.tags } := by
  rw [State.leaveUp_reads (read := (·.fabric)) (fun _ _ _ => rfl) (fun _ _ => rfl) (fun _ _ => rfl)]
  rw [State.endLinkEntries, State.setWaiting_fabric, State.foldl_endEntry_fabric]

/-- The condition of a tag after link `l` has left UP: a tag that an entry of the link held is quarantined against that
entry's target, and every other tag stays (R105). -/
def State.tagAfterLeaveUp (l : LinkId) (s : State) (u : TagNo) : TagCond :=
  match s.tag u with
  | .free => .free
  | .quarantined x => .quarantined x
  | .held m f =>
    if m = l then
      match (s.entry m f).request? with
      | none => .held m f
      | some r => .quarantined r.target
    else .held m f

theorem State.tag_leaveUp (l : LinkId) {s : State} (htags : tagsHeldByIssued s) (u : TagNo) :
    (s.leaveUp l).tag u = s.tagAfterLeaveUp l u := by
  rw [State.leaveUp_reads (read := (·.tag u)) (fun _ _ _ => rfl) (fun _ _ => rfl) (fun _ _ => rfl),
    State.endLinkEntries, State.tag_setWaiting, State.tag_foldl_endEntry htags, State.tagAfterLeaveUp]
  simp only [List.mem_finRange, and_true]

theorem State.tags_leaveUp (l : LinkId) {s : State} (htags : tagsHeldByIssued s) :
    (s.leaveUp l).fabric.tags = Vector.ofFn (s.tagAfterLeaveUp l) := by
  refine Vector.ext fun u hu => ?_
  rw [Vector.getElem_ofFn, ← State.tag_leaveUp l htags]
  rfl

/-- What is gathered from all numbers, but found at one of them alone, is what is found there. -/
theorem flatMap_finRange_of_ne {α : Type} {n : Nat} (i : Fin n) (f : Fin n → List α) (h : ∀ j, j ≠ i → f j = []) :
    (List.finRange n).flatMap f = f i := by
  obtain ⟨pre, post, hsplit⟩ := List.append_of_mem (List.mem_finRange i)
  have hn := List.nodup_finRange n
  rw [hsplit] at hn ⊢
  have hi := List.nodup_middle.1 hn
  simp only [List.nodup_cons, List.mem_append, not_or] at hi
  obtain ⟨⟨hpre, hpost⟩, -⟩ := hi
  have hnil : ∀ xs : List (Fin n), i ∉ xs → xs.flatMap f = [] := fun xs hx =>
    List.flatMap_eq_nil_iff.2 fun j hj => h j fun hji => hx (hji ▸ hj)
  rw [List.flatMap_append, List.flatMap_cons, hnil pre hpre, hnil post hpost, List.nil_append, List.append_nil]

/-- The requests in the busy entries of one link, entry by entry. -/
theorem requestsOf_link (s : State) (l : LinkId) :
    requestsOf s (entriesWith s fun m _ y => decide (m = l) && decide (y ≠ .free)) =
      (List.finRange 8).filterMap fun e => (s.entry l e).request? := by
  have hbusy : ∀ y : Entry, (if y = .free then none else y.request?) = y.request? := by
    intro y
    cases y <;> simp [Entry.request?]
  rw [requestsOf, entriesWith, allEntries, List.filterMap_filter, List.filterMap_flatMap]
  simp only [List.filterMap_map]
  rw [flatMap_finRange_of_ne l]
  · refine List.filterMap_congr fun e _ => ?_
    simp only [Function.comp_apply, decide_true, Bool.true_and, decide_not, Bool.not_eq_true', decide_eq_false_iff_not,
      ite_not]
    exact hbusy (s.entry l e)
  · intro m hm
    simp [hm]

/-- The records after a link has left UP are those after the drops of its entries' references (R105, R98). -/
theorem State.endLinkEntries_sameRecords (l : LinkId) (s : State) :
    (dropAll ((requestsOf s (entriesWith s fun m _ y => decide (m = l) && decide (y ≠ .free))).map (·.window))
      s).SameRecords (s.endLinkEntries l) := by
  rw [requestsOf_link, State.endLinkEntries]
  obtain ⟨hw, hd, he⟩ := State.foldl_endEntry_sameRecords (l := l) (List.nodup_finRange 8) s
  refine ⟨?_, ?_, ?_⟩
  · rw [State.setWaiting_windows, hw]
  · rw [State.setWaiting_domains, hd]
  · rw [State.setWaiting_events, he]

theorem State.linkHasIssued_iff (s : State) (l : LinkId) :
    s.linkHasIssued l = true ↔ ∃ e : EntryNo, (s.entry l e).isIssued = true := by
  simp [State.linkHasIssued]

/-- Leaving UP sets LINK_RESET, and QUARANTINE when it puts a tag in the quarantine (R105, R169). -/
theorem State.events_leaveUp (l : LinkId) (s : State) : (s.leaveUp l).events =
    if ∃ e : EntryNo, (s.entry l e).isIssued = true then
      ((s.endLinkEntries l).events.raiseLink l .linkReset).raiseDev .quarantine
    else (s.endLinkEntries l).events.raiseLink l .linkReset := by
  unfold State.leaveUp
  simp only [State.linkHasIssued_iff]
  split <;> simp only [State.raiseDev, State.raiseLink, State.setEvents_events, State.setEngine_events,
    State.modPort, State.setPort_events]

/-- Settles O47, table by table. -/
theorem leavingUpResetEffects : Obligations.LeavingUpResetEffects := by
  intro s l htags mine dropped p resetEvents
  have hrec : dropped.SameRecords (s.endLinkEntries l) := s.endLinkEntries_sameRecords l
  refine State.eq_of_fields ?_ ?_ ?_ ?_ ?_ ?_ ?_ ?_ ?_ ?_ ?_ ?_ ?_ ?_
  · rw [State.leaveUp_reads (read := (·.windows)) (fun _ _ _ => rfl) (fun _ _ => rfl) (fun _ _ => rfl)]
    exact hrec.windows
  · rw [State.leaveUp_reads (read := (·.domains)) (fun _ _ _ => rfl) (fun _ _ => rfl) (fun _ _ => rfl)]
    exact hrec.domains
  · rw [State.leaveUp_bindings]
    exact (dropAll_keeps (read := State.bindings) (by simp) _ s).symm
  · refine Vector.ext fun m hm => ?_
    rw [Vector.getElem_set]
    exact (s.port_leaveUp l ⟨m, hm⟩).trans (if_congr Fin.ext_iff rfl rfl)
  · refine Vector.ext fun m hm => Vector.ext fun e he => ?_
    refine (s.entry_leaveUp l ⟨m, hm⟩ ⟨e, he⟩).trans ?_
    by_cases hlm : l.val = m
    · subst hlm
      simp
    · have hne : l ≠ ⟨m, hm⟩ := fun h => hlm (congrArg Fin.val h)
      simp [hlm, hne, State.entry_eq]
  · refine Vector.ext fun m hm => ?_
    rw [Vector.getElem_set]
    exact (s.waitList_leaveUp l ⟨m, hm⟩).trans (if_congr Fin.ext_iff rfl rfl)
  · rw [State.fabric_leaveUp, State.tags_leaveUp l htags]
    rfl
  · exact s.engine_leaveUp l
  · rw [State.leaveUp_mgmt]
    exact (dropAll_keeps (read := State.mgmt) (by simp) _ s).symm
  · rw [State.events_leaveUp, hrec.events]
    rfl
  · rw [State.leaveUp_sent]
    exact (dropAll_keeps (read := State.sent) (by simp) _ s).symm
  · rw [State.leaveUp_fabricSent]
    exact (dropAll_keeps (read := State.fabricSent) (by simp) _ s).symm
  · rw [State.leaveUp_now]
    exact (dropAll_keeps (read := State.now) (by simp) _ s).symm
  · rw [State.leaveUp_pending]
    exact (dropAll_keeps (read := State.pending) (by simp) _ s).symm

end Sys2Proof.Machine
end

section
/-! SUPPORT. What one event can do to the transactions in flight: the tracker entries, the waiting lists, the fabric
tags and targets, the ports and the in-band queue. Each move stands with the guard under which the part makes it; a guard that
follows from a law of the state before the move stands behind that law. -/

namespace Sys2Proof.Machine

/-! ## The moves -/

/-- The transactions in flight stay: at most a quarantined or free tag changes, and what a port notes of streams. -/
structure State.SameFlow (s t : State) : Prop where
  entries : t.entries = s.entries
  waiting : t.waiting = s.waiting
  targets : t.fabric.targets = s.fabric.targets
  held : ∀ u l e, t.tag u = .held l e ↔ s.tag u = .held l e
  inband : t.engine.inband = s.engine.inband
  ports : ∀ l, ∃ n u, t.port l = { s.port l with noticeSet := n, unboundSet := u }

/-- A port whose timers and signal are as its state says (R158, R160). -/
def LinkPort.LineSound (p : LinkPort) : Prop :=
  (p.helloTimer.isSome = true ↔ p.state = .training) ∧ (p.handshakeTimer.isSome = true ↔ p.state = .resetting) ∧
  (p.state = .down → p.signal = false) ∧
  (p.state = .training ∨ p.state = .up ∨ p.state = .resetting → p.signal = true)

theorem timersAndSignals_iff (s : State) : timersAndSignals s ↔ ∀ l, (s.port l).LineSound := Iff.rfl

/-- One move of the transactions in flight. -/
inductive FlowMove (s : State) : State → Prop
  | same {t : State} (h : s.SameFlow t) : FlowMove s t
  /-- a port changes: one that is not UP afterwards is quiet, and its timers and its signal follow its state -/
  | port {l : LinkId} {p : LinkPort}
      (hquiet : linksQuietUnlessUp s → p.state ≠ .up → linkQuiet (s.setPort l p) l)
      (hline : timersAndSignals s → p.LineSound) : FlowMove s (s.setPort l p)
  /-- the in-band queue takes requests of UP links only (R142) -/
  | engine {e : Engine} (h : ∀ q ∈ e.inband, q ∈ s.engine.inband ∨ (s.port q.link).state = .up) :
      FlowMove s (s.setEngine e)
  /-- an entry ends with its reply (R91) -/
  | ends (fate : TagFate) (answer : EntryReq → DataAnswer) (l : LinkId) (e : EntryNo) :
      FlowMove s (s.endWithReply fate answer l e)
  /-- a link has the reset effects (R169) -/
  | leaves (l : LinkId) : FlowMove s (s.leaveUp l)
  /-- an admitted request of an UP link enters the tracker, its target ONLINE (R64, R90) -/
  | admits {l : LinkId} {e : EntryNo} {r : EntryReq} (hup : (s.port l).state = .up) (hfree : s.entry l e = .free)
      (honline : s.target r.target = .online) : FlowMove s (s.enterTracker l e r)
  /-- the head of a waiting list is granted a free tag (R93) -/
  | grants {l : LinkId} {e : EntryNo} {rest : List EntryNo} {r : EntryReq} {g : TagNo}
      (hlist : s.waitList l = e :: rest) (hentry : s.entry l e = .waitTag r) (hfree : s.tag g = .free) :
      FlowMove s (s.grantTag l e r g)
  /-- a target changes; none that goes OFFLINE has waiting entries left (R102) -/
  | target {x : TargetId} {st : TargetState}
      (h : st = .offline → ∀ l e r, s.entry l e = .waitTag r → r.target ≠ x) : FlowMove s (s.setTarget x st)
  /-- the part starts again with nothing in flight (R108, R174) -/
  | restarts {t : State} (hentry : ∀ l e, t.entry l e = .free) (hlist : ∀ l, t.waitList l = [])
      (htag : ∀ u l e, t.tag u ≠ .held l e) (hquiet : ∀ l, linkQuiet t l) (hline : ∀ l, (t.port l).LineSound) :
      FlowMove s t

/-- A sequence of moves of the transactions in flight. -/
abbrev FlowMoves : State → State → Prop := Relation.ReflTransGen FlowMove

/-! ## States with the same transactions in flight -/

theorem State.SameFlow.refl (s : State) : s.SameFlow s := ⟨rfl, rfl, rfl, fun _ _ _ => .rfl, rfl, fun _ => ⟨_, _, rfl⟩⟩

theorem State.SameFlow.trans {s t u : State} (h : s.SameFlow t) (h' : t.SameFlow u) : s.SameFlow u where
  entries := h'.entries.trans h.entries
  waiting := h'.waiting.trans h.waiting
  targets := h'.targets.trans h.targets
  held g l e := (h'.held g l e).trans (h.held g l e)
  inband := h'.inband.trans h.inband
  ports l := by
    obtain ⟨n, m, hp⟩ := h.ports l
    obtain ⟨n', m', hp'⟩ := h'.ports l
    exact ⟨n', m', by rw [hp', hp]⟩

/-- `trans` with the later operation first, which names the state between. -/
theorem State.SameFlow.after {s t u : State} (h' : t.SameFlow u) (h : s.SameFlow t) : s.SameFlow u := h.trans h'

theorem State.SameFlow.of_tables {s t : State} (he : t.entries = s.entries) (hw : t.waiting = s.waiting)
    (hf : t.fabric = s.fabric) (hi : t.engine = s.engine) (hp : t.ports = s.ports) : s.SameFlow t where
  entries := he
  waiting := hw
  targets := by rw [hf]
  held g l e := by rw [State.tag_eq, State.tag_eq, hf]
  inband := by rw [hi]
  ports l := ⟨_, _, by rw [State.port_eq, State.port_eq, hp]⟩

/-- What a port notes of streams is no transaction in flight. -/
theorem State.SameFlow.of_ports {s t : State} (he : t.entries = s.entries) (hw : t.waiting = s.waiting)
    (hf : t.fabric = s.fabric) (hi : t.engine = s.engine)
    (hp : ∀ l, ∃ n u, t.port l = { s.port l with noticeSet := n, unboundSet := u }) : s.SameFlow t where
  entries := he
  waiting := hw
  targets := by rw [hf]
  held g l e := by rw [State.tag_eq, State.tag_eq, hf]
  inband := by rw [hi]
  ports := hp

theorem State.SameFlow.modPort {l : LinkId} {f : LinkPort → LinkPort} (s : State)
    (h : ∀ p, ∃ n u, f p = { p with noticeSet := n, unboundSet := u }) : s.SameFlow (s.modPort l f) := by
  refine .of_ports rfl rfl rfl rfl fun m => ?_
  rw [State.port_modPort]
  split
  · next hlm => exact hlm ▸ h _
  · exact ⟨_, _, rfl⟩

theorem State.SameFlow.ite {p : Prop} [Decidable p] {s t u : State} (ht : s.SameFlow t) (hu : s.SameFlow u) :
    s.SameFlow (if p then t else u) := by
  split
  · exact ht
  · exact hu

theorem State.SameFlow.foldl {α : Type} {f : State → α → State} (h : ∀ (s : State) (a : α), s.SameFlow (f s a))
    (as : List α) (s : State) : s.SameFlow (as.foldl f s) := by
  induction as generalizing s with
  | nil => exact .refl s
  | cons a rest ih => exact (h s a).trans (ih _)

/-! ## Sequences of moves -/

theorem FlowMoves.same {s t : State} (h : s.SameFlow t) : FlowMoves s t := .single (.same h)

theorem FlowMoves.then_same {s t u : State} (h : FlowMoves s t) (h' : t.SameFlow u) : FlowMoves s u := h.tail (.same h')

theorem FlowMoves.ite {p : Prop} [Decidable p] {s t u : State} (ht : p → FlowMoves s t) (hu : ¬p → FlowMoves s u) :
    FlowMoves s (if p then t else u) := by
  split
  · next h => exact ht h
  · next h => exact hu h

theorem FlowMoves.foldl {α : Type} {f : State → α → State} (h : ∀ s a, FlowMoves s (f s a)) (as : List α) (s : State) :
    FlowMoves s (as.foldl f s) := by
  induction as generalizing s with
  | nil => exact .refl
  | cons a rest ih => exact (h s a).trans (ih _)

/-- The traffic of an UP link: its port changes and stays UP, with its timers and its signal. -/
theorem FlowMoves.traffic {s : State} {l : LinkId} {p : LinkPort} (hup : (s.port l).state = .up)
    (hstate : p.state = (s.port l).state) (hsignal : p.signal = (s.port l).signal)
    (hhello : p.helloTimer = (s.port l).helloTimer) (hshake : p.handshakeTimer = (s.port l).handshakeTimer) :
    FlowMoves s (s.setPort l p) := by
  refine .single (.port (fun _ hp => absurd (hstate.trans hup) hp) fun hs => ?_)
  have hl := (timersAndSignals_iff s).1 hs l
  unfold LinkPort.LineSound at hl ⊢
  rwa [hstate, hsignal, hhello, hshake]

/-- The traffic of a port stays: what a quiet link has none of (R105, R156, R159). -/
structure LinkPort.SameTraffic (p q : LinkPort) : Prop where
  ingress : q.ingress = p.ingress
  outData : q.outData = p.outData
  outCtl : q.outCtl = p.outCtl
  dataCredits : q.dataCredits = p.dataCredits
  unrepliedTags : q.unrepliedTags = p.unrepliedTags
  ctlCredits : q.ctlCredits = p.ctlCredits
  unrepliedCtl : q.unrepliedCtl = p.unrepliedCtl
  noticeCredit : q.noticeCredit = p.noticeCredit

theorem LinkPort.SameTraffic.refl (p : LinkPort) : p.SameTraffic p := ⟨rfl, rfl, rfl, rfl, rfl, rfl, rfl, rfl⟩

theorem LinkPort.SameTraffic.trans {p q r : LinkPort} (h : p.SameTraffic q) (h' : q.SameTraffic r) :
    p.SameTraffic r where
  ingress := h'.ingress.trans h.ingress
  outData := h'.outData.trans h.outData
  outCtl := h'.outCtl.trans h.outCtl
  dataCredits := h'.dataCredits.trans h.dataCredits
  unrepliedTags := h'.unrepliedTags.trans h.unrepliedTags
  ctlCredits := h'.ctlCredits.trans h.ctlCredits
  unrepliedCtl := h'.unrepliedCtl.trans h.unrepliedCtl
  noticeCredit := h'.noticeCredit.trans h.noticeCredit

/-- The state, the signal and the timers of a port, and what it notes of streams, are not its traffic. -/
theorem LinkPort.SameTraffic.line (p : LinkPort) (st : LinkState) (signal : Bool) (hello shake : Option Nat)
    (n u : StreamSet) : p.SameTraffic
      { p with
        state := st, signal := signal, helloTimer := hello, handshakeTimer := shake, noticeSet := n, unboundSet := u } :=
  ⟨rfl, rfl, rfl, rfl, rfl, rfl, rfl, rfl⟩

/-- A link that is quiet stays so when only its state, its timers and its signal change. -/
theorem linkQuiet_setPort {s : State} {l : LinkId} {p : LinkPort} (h : (s.port l).SameTraffic p) (hs : linkQuiet s l) :
    linkQuiet (s.setPort l p) l := by
  unfold linkQuiet at hs ⊢
  rw [State.port_setPort, if_pos rfl, h.ingress, h.outData, h.outCtl, h.dataCredits, h.unrepliedTags, h.ctlCredits,
    h.unrepliedCtl, h.noticeCredit]
  exact hs

/-- A quiet link changes its state, its timers and its signal (R160, R161, R170). -/
theorem FlowMoves.line {s : State} {l : LinkId} {p : LinkPort} (hsame : (s.port l).SameTraffic p)
    (hquiet : linksQuietUnlessUp s → linkQuiet s l) (hline : timersAndSignals s → p.LineSound) :
    FlowMoves s (s.setPort l p) :=
  .single (.port (fun hs _ => linkQuiet_setPort hsame (hquiet hs)) hline)

end Sys2Proof.Machine
end

section
/-! SUPPORT. The laws of the tracker, kept by every move of the transactions in flight: the tags and their entries
(R92), the waiting lists (R87), and the targets of waiting entries (R90, R102). -/

namespace Sys2Proof.Machine

/-! ## What the moves of the tracker leave -/

theorem State.entry_enterTracker (l m : LinkId) (e f : EntryNo) (r : EntryReq) (s : State) :
    (s.enterTracker l e r).entry m f = if l = m ∧ e = f then .waitTag r else s.entry m f :=
  State.entry_setEntry l m e f _ s

theorem State.waitList_enterTracker (l m : LinkId) (e : EntryNo) (r : EntryReq) (s : State) :
    (s.enterTracker l e r).waitList m = if l = m then s.waitList l ++ [e] else s.waitList m :=
  State.waitList_setWaiting l m _ (s.setEntry l e (.waitTag r))

theorem State.entry_grantTag (l m : LinkId) (e f : EntryNo) (r : EntryReq) (g : TagNo) (s : State) :
    (s.grantTag l e r g).entry m f =
      if l = m ∧ e = f then .issued r g (s.now + s.fabric.timeout) else s.entry m f :=
  State.entry_setEntry l m e f _ s

theorem State.waitList_grantTag (l m : LinkId) (e : EntryNo) (r : EntryReq) (g : TagNo) (s : State) :
    (s.grantTag l e r g).waitList m = if l = m then (s.waitList l).tail else s.waitList m :=
  State.waitList_setWaiting l m _ (s.setEntry l e _)

theorem State.tag_grantTag (l : LinkId) (e : EntryNo) (r : EntryReq) (g u : TagNo) (s : State) :
    (s.grantTag l e r g).tag u = if g = u then .held l e else s.tag u :=
  State.tag_setTag g u _ s

/-- The end of an entry with its reply: nothing for a FREE entry, and for a busy one its end with the reply handed. -/
theorem State.endWithReply_cases (fate : TagFate) (answer : EntryReq → DataAnswer) (l : LinkId) (e : EntryNo)
    (s : State) : s.endWithReply fate answer l e = s ∨
      ∃ r, (s.entry l e).request? = some r ∧
        s.endWithReply fate answer l e = (s.endEntry fate l e).handData l ⟨r.tag, r.stream, answer r⟩ := by
  obtain hx | ⟨r, hr⟩ := (s.entry l e).free_or_request
  · exact .inl (State.endWithReply_free hx)
  · exact .inr ⟨r, hr, State.endWithReply_request hr⟩

/-! ## Tags (R92) -/

theorem tagsHeldByIssued_of {s t : State} (hs : tagsHeldByIssued s) (hentries : t.entries = s.entries)
    (hheld : ∀ u l e, t.tag u = .held l e ↔ s.tag u = .held l e) : tagsHeldByIssued t := by
  obtain ⟨hheld', hissued⟩ := hs
  unfold tagsHeldByIssued
  simp only [State.entry_eq, hentries, hheld]
  exact ⟨hheld', hissued⟩

theorem State.leaveUp_keeps_tagsHeldByIssued (l : LinkId) {s : State} (htags : tagsHeldByIssued s) :
    tagsHeldByIssued (s.leaveUp l) := by
  rw [State.leaveUp_reads (read := tagsHeldByIssued) (fun _ _ _ => rfl) (fun _ _ => rfl) (fun _ _ => rfl)]
  have hfold := List.foldlRecOn (motive := tagsHeldByIssued) (List.finRange 8) (fun s e => s.endEntry .quarantined l e)
    htags fun t ht e _ => State.endEntry_keeps_tagsHeldByIssued .quarantined l e ht
  rw [State.endLinkEntries]
  exact tagsHeldByIssued_of hfold (State.setWaiting_entries ..) fun u m f => by rw [State.tag_setWaiting]

theorem State.enterTracker_keeps_tagsHeldByIssued {l : LinkId} {e : EntryNo} {r : EntryReq} {s : State}
    (hfree : s.entry l e = .free) (htags : tagsHeldByIssued s) : tagsHeldByIssued (s.enterTracker l e r) := by
  obtain ⟨hheld, hissued⟩ := htags
  constructor
  · intro u m f hu
    obtain ⟨q, dl, hq⟩ := hheld u m f hu
    refine ⟨q, dl, ?_⟩
    rw [State.entry_enterTracker, if_neg, hq]
    rintro ⟨rfl, rfl⟩
    simp [hfree] at hq
  · intro u m f q dl hq
    rw [State.entry_enterTracker] at hq
    split at hq
    · cases hq
    · exact hissued u m f q dl hq

theorem State.grantTag_keeps_tagsHeldByIssued {l : LinkId} {e : EntryNo} {r : EntryReq} {g : TagNo} {s : State}
    (hentry : s.entry l e = .waitTag r) (hfree : s.tag g = .free) (htags : tagsHeldByIssued s) :
    tagsHeldByIssued (s.grantTag l e r g) := by
  obtain ⟨hheld, hissued⟩ := htags
  constructor
  · intro u m f hu
    rw [State.tag_grantTag] at hu
    rw [State.entry_grantTag]
    split at hu
    · next hgu =>
      cases hu
      exact ⟨r, _, by rw [if_pos ⟨rfl, rfl⟩, hgu]⟩
    · obtain ⟨q, dl, hq⟩ := hheld u m f hu
      refine ⟨q, dl, ?_⟩
      rw [if_neg, hq]
      rintro ⟨rfl, rfl⟩
      simp [hentry] at hq
  · intro u m f q dl hq
    rw [State.entry_grantTag] at hq
    rw [State.tag_grantTag]
    split at hq
    · next hle =>
      obtain ⟨rfl, rfl⟩ := hle
      cases hq
      rw [if_pos rfl]
    · have hu := hissued u m f q dl hq
      rw [if_neg, hu]
      rintro rfl
      simp [hfree] at hu

theorem FlowMove.keeps_tagsHeldByIssued {s t : State} (h : FlowMove s t) (hs : tagsHeldByIssued s) :
    tagsHeldByIssued t := by
  cases h with
  | same h => exact tagsHeldByIssued_of hs h.entries h.held
  | port | engine | target => exact hs
  | ends fate answer l e =>
    obtain heq | ⟨r, -, heq⟩ := State.endWithReply_cases fate answer l e s
    · rwa [heq]
    · rw [heq]
      exact State.endEntry_keeps_tagsHeldByIssued fate l e hs
  | leaves l => exact s.leaveUp_keeps_tagsHeldByIssued l hs
  | admits _ hfree _ => exact State.enterTracker_keeps_tagsHeldByIssued hfree hs
  | grants _ hentry hfree => exact State.grantTag_keeps_tagsHeldByIssued hentry hfree hs
  | restarts hentry _ htag _ _ =>
    exact ⟨fun u l e hu => absurd hu (htag u l e), fun u l e r dl he => by simp [hentry] at he⟩

/-! ## Waiting lists (R87) -/

/-- The waiting list of one link holds exactly its WAIT_TAG entries, each once. -/
def WaitingListSound (s : State) (l : LinkId) : Prop :=
  (s.waitList l).Nodup ∧ ∀ e : EntryNo, e ∈ s.waitList l ↔ (s.entry l e).isWaiting = true

theorem waitingListsSound_iff (s : State) : waitingListsSound s ↔ ∀ l, WaitingListSound s l := Iff.rfl

/-- A link whose entries and waiting list stay keeps its waiting list sound. -/
theorem WaitingListSound.of_eq {s t : State} {l : LinkId} (h : WaitingListSound s l) (hw : t.waitList l = s.waitList l)
    (he : ∀ e, t.entry l e = s.entry l e) : WaitingListSound t l := by
  unfold WaitingListSound
  simp only [hw, he]
  exact h

theorem State.endWithReply_keeps_waitingListsSound (fate : TagFate) (answer : EntryReq → DataAnswer) (l : LinkId)
    (e : EntryNo) {s : State} (hs : waitingListsSound s) : waitingListsSound (s.endWithReply fate answer l e) := by
  intro m
  obtain ⟨hn, hmem⟩ := hs m
  rw [State.waitList_endWithReply]
  refine ⟨hn.filter _, fun f => ?_⟩
  rw [State.entry_endWithReply, List.mem_filter, hmem f, decide_eq_true_eq]
  by_cases hmf : l = m ∧ e = f
  · obtain ⟨rfl, rfl⟩ := hmf
    simp [Entry.isWaiting]
  · have hne : ¬((m, f) = (l, e)) := fun h => hmf (by cases h; exact ⟨rfl, rfl⟩)
    simp [hmf, hne]

theorem State.enterTracker_keeps_waitingListsSound {l : LinkId} {e : EntryNo} {r : EntryReq} {s : State}
    (hfree : s.entry l e = .free) (hs : waitingListsSound s) : waitingListsSound (s.enterTracker l e r) := by
  intro m
  obtain ⟨hn, hmem⟩ := hs m
  simp only [State.waitList_enterTracker, State.entry_enterTracker]
  by_cases hlm : l = m
  · subst hlm
    have he : e ∉ s.waitList l := fun h => by simpa [hfree, Entry.isWaiting] using (hmem e).1 h
    refine ⟨?_, fun f => ?_⟩
    · rw [if_pos rfl, List.nodup_append]
      exact ⟨hn, List.nodup_singleton e, fun a ha b hb hab => he (List.mem_singleton.1 hb ▸ hab ▸ ha)⟩
    · by_cases hef : e = f
      · simp [hef, Entry.isWaiting]
      · simp [hef, hmem f, Ne.symm hef]
  · simp [hlm, hn, hmem]

theorem State.grantTag_keeps_waitingListsSound {l : LinkId} {e : EntryNo} {rest : List EntryNo} {r : EntryReq}
    {g : TagNo} {s : State} (hlist : s.waitList l = e :: rest) (hs : waitingListsSound s) :
    waitingListsSound (s.grantTag l e r g) := by
  intro m
  obtain ⟨hn, hmem⟩ := hs m
  simp only [State.waitList_grantTag, State.entry_grantTag]
  by_cases hlm : l = m
  · subst hlm
    simp only [hlist, List.nodup_cons, List.mem_cons] at hn hmem
    obtain ⟨he, hrest⟩ := hn
    refine ⟨by simpa [hlist] using hrest, fun f => ?_⟩
    by_cases hef : e = f
    · subst hef
      simp [hlist, he, Entry.isWaiting]
    · simp [hlist, hef, ← hmem f, Ne.symm hef]
  · simp [hlm, hn, hmem]

theorem FlowMove.keeps_waitingListsSound {s t : State} (h : FlowMove s t) (hs : waitingListsSound s) :
    waitingListsSound t := by
  cases h with
  | same h =>
    unfold waitingListsSound
    simp only [State.waitList_eq, State.entry_eq, h.waiting, h.entries]
    exact hs
  | port | engine | target => exact hs
  | ends fate answer l e => exact State.endWithReply_keeps_waitingListsSound fate answer l e hs
  | leaves l =>
    intro m
    by_cases hlm : l = m
    · simp [State.waitList_leaveUp, State.entry_leaveUp, hlm, Entry.isWaiting]
    · exact WaitingListSound.of_eq (hs m) (by rw [State.waitList_leaveUp, if_neg hlm])
        fun e => by rw [State.entry_leaveUp, if_neg hlm]
  | admits _ hfree _ => exact State.enterTracker_keeps_waitingListsSound hfree hs
  | grants hlist _ _ => exact State.grantTag_keeps_waitingListsSound hlist hs
  | restarts hentry hlist _ _ _ => exact fun l => by simp [hlist, hentry, Entry.isWaiting]

/-! ## Targets of waiting entries (R90, R102) -/

/-- When no entry begins to wait and no target changes, every waiting entry keeps its target ONLINE. -/
theorem waitersTargetOnline_of {s t : State} (hs : waitersTargetOnline s) (htarget : ∀ x, t.target x = s.target x)
    (hentry : ∀ l e r, t.entry l e = .waitTag r → s.entry l e = .waitTag r) : waitersTargetOnline t :=
  fun l e r he => (htarget r.target).trans (hs l e r (hentry l e r he))

theorem State.target_endEntry (fate : TagFate) (l : LinkId) (e : EntryNo) (x : TargetId) (s : State) :
    (s.endEntry fate l e).target x = s.target x := by
  rw [State.target_eq, State.fabric_endEntry]
  rfl

theorem FlowMove.keeps_waitersTargetOnline {s t : State} (h : FlowMove s t) (hs : waitersTargetOnline s) :
    waitersTargetOnline t := by
  cases h with
  | same h =>
    exact waitersTargetOnline_of hs (fun x => by rw [State.target_eq, State.target_eq, h.targets])
      fun l e r he => by rwa [State.entry_eq, h.entries] at he
  | port | engine => exact hs
  | ends fate answer l e =>
    refine waitersTargetOnline_of hs (fun x => ?_) fun m f r hr => ?_
    · rw [State.target_eq, State.fabric_endWithReply]
      rfl
    · rw [State.entry_endWithReply] at hr
      split at hr
      · cases hr
      · exact hr
  | leaves l =>
    refine waitersTargetOnline_of hs (fun x => ?_) fun m f r hr => ?_
    · rw [State.target_eq, State.fabric_leaveUp]
      rfl
    · rw [State.entry_leaveUp] at hr
      split at hr
      · cases hr
      · exact hr
  | admits _ _ honline =>
    intro m f q hq
    rw [State.entry_enterTracker] at hq
    split at hq
    · cases hq
      exact honline
    · exact hs m f q hq
  | grants _ _ _ =>
    refine waitersTargetOnline_of hs (fun _ => rfl) fun m f q hq => ?_
    rw [State.entry_grantTag] at hq
    split at hq
    · cases hq
    · exact hq
  | @target x st h =>
    intro l e r hr
    rw [State.target_setTarget]
    split
    · next hx =>
      cases st with
      | offline => exact absurd hx.symm (h rfl l e r hr)
      | online => rfl
    · exact hs l e r hr
  | restarts hentry _ _ _ _ => exact fun l e r hr => by simp [hentry] at hr

end Sys2Proof.Machine
end

section
/-! SUPPORT. The laws of the links, kept by every move of the transactions in flight: quiet links (R105, R126, R156,
R159), timers and signals (R158, R160). -/

namespace Sys2Proof.Machine

/-! ## Quiet links (R105, R126, R156, R159) -/

/-- A quiet link stays quiet when its port's traffic, its entries and its waiting list stay and the in-band queue takes
no request of it. -/
theorem linkQuiet_of {s t : State} {l : LinkId} (hs : linkQuiet s l) (hport : (s.port l).SameTraffic (t.port l))
    (hentry : ∀ e, t.entry l e = s.entry l e) (hlist : t.waitList l = s.waitList l)
    (hinband : ∀ q ∈ t.engine.inband, q ∈ s.engine.inband ∨ q.link ≠ l) : linkQuiet t l := by
  unfold linkQuiet at hs ⊢
  rw [hport.ingress, hport.outData, hport.outCtl, hport.dataCredits, hport.unrepliedTags, hport.ctlCredits,
    hport.unrepliedCtl, hport.noticeCredit]
  simp only [hentry, hlist]
  obtain ⟨hin, hdata, hctl, hcredit, htags, hctlCredit, hctlTags, hnotice, hfree, hwait, hqueue⟩ := hs
  exact ⟨hin, hdata, hctl, hcredit, htags, hctlCredit, hctlTags, hnotice, hfree, hwait,
    fun q hq => (hinband q hq).elim (hqueue q) id⟩

/-- The link of a busy entry is UP (R105). -/
theorem up_of_busy {s : State} (hs : linksQuietUnlessUp s) {l : LinkId} {e : EntryNo} (h : s.entry l e ≠ .free) :
    (s.port l).state = .up := by
  by_contra hup
  obtain ⟨-, -, -, -, -, -, -, -, hfree, -⟩ := hs l hup
  exact h (hfree e)

/-- The link of a control request in the in-band queue is UP (R126). -/
theorem up_of_inband {s : State} (hs : linksQuietUnlessUp s) {q : CtlRequest} (h : q ∈ s.engine.inband) :
    (s.port q.link).state = .up := by
  by_contra hup
  obtain ⟨-, -, -, -, -, -, -, -, -, -, hqueue⟩ := hs q.link hup
  exact hqueue q h rfl

/-- A link with the reset effects is quiet (R105, R126, R156, R169). -/
theorem State.linkQuiet_leaveUp (l : LinkId) (s : State) : linkQuiet (s.leaveUp l) l := by
  have hport : (s.leaveUp l).port l = (s.port l).resetEffects := by rw [State.port_leaveUp, if_pos rfl]
  unfold linkQuiet
  rw [hport]
  refine ⟨rfl, rfl, rfl, rfl, rfl, rfl, rfl, rfl, fun e => ?_, ?_, fun q hq => ?_⟩
  · rw [State.entry_leaveUp, if_pos rfl]
  · rw [State.waitList_leaveUp, if_pos rfl]
  · rw [State.engine_leaveUp] at hq
    simpa using (List.mem_filter.1 hq).2

/-- What happens on one link, UP afterwards, leaves the other links quiet that were. -/
theorem linksQuiet_of_others {s t : State} {l : LinkId} (hs : linksQuietUnlessUp s)
    (hlink : (t.port l).state ≠ .up → linkQuiet t l) (hport : ∀ m, l ≠ m → t.port m = s.port m)
    (hentry : ∀ m, l ≠ m → ∀ e, t.entry m e = s.entry m e) (hlist : ∀ m, l ≠ m → t.waitList m = s.waitList m)
    (hinband : ∀ q ∈ t.engine.inband, q ∈ s.engine.inband) : linksQuietUnlessUp t := by
  intro m hm
  by_cases hlm : l = m
  · subst hlm
    exact hlink hm
  · rw [hport m hlm] at hm
    exact linkQuiet_of (hs m hm) (by rw [hport m hlm]; exact .refl _) (hentry m hlm) (hlist m hlm)
      fun q hq => .inl (hinband q hq)

theorem State.endWithReply_keeps_linksQuiet (fate : TagFate) (answer : EntryReq → DataAnswer) (l : LinkId)
    (e : EntryNo) {s : State} (hs : linksQuietUnlessUp s) :
    linksQuietUnlessUp (s.endWithReply fate answer l e) := by
  obtain hx | ⟨r, hr⟩ := (s.entry l e).free_or_request
  · rwa [State.endWithReply_free hx]
  · have hup : (s.port l).state = .up := up_of_busy hs (e := e) fun hx => by simp [hx, Entry.request?] at hr
    refine linksQuiet_of_others (l := l) hs (fun hn => absurd ?_ hn) (fun m hlm => ?_) (fun m hlm f => ?_)
      (fun m hlm => ?_) fun q hq => by simpa using hq
    · rw [State.port_endWithReply hr, if_pos rfl, hup]
    · rw [State.port_endWithReply hr, if_neg hlm]
    · rw [State.entry_endWithReply, if_neg fun h => hlm h.1]
    · rw [State.waitList_endWithReply, List.filter_eq_self.2]
      intro f _
      simp [Ne.symm hlm]

theorem FlowMove.keeps_linksQuiet {s t : State} (h : FlowMove s t) (hs : linksQuietUnlessUp s) :
    linksQuietUnlessUp t := by
  cases h with
  | same h =>
    intro l hl
    obtain ⟨n, u, hp⟩ := h.ports l
    rw [hp] at hl
    refine linkQuiet_of (hs l hl) (by rw [hp]; exact .line ..) (fun e => ?_) ?_ fun q hq => ?_
    · rw [State.entry_eq, State.entry_eq, h.entries]
    · rw [State.waitList_eq, State.waitList_eq, h.waiting]
    · exact .inl (h.inband ▸ hq)
  | @port l p hquiet _ =>
    refine linksQuiet_of_others (l := l) hs (fun hn => hquiet hs ?_) (fun m hlm => ?_) (fun _ _ _ => rfl)
      (fun _ _ => rfl) fun _ => id
    · rwa [State.port_setPort, if_pos rfl] at hn
    · rw [State.port_setPort, if_neg hlm]
  | @engine e h =>
    intro l hl
    refine linkQuiet_of (hs l hl) (.refl _) (fun _ => rfl) rfl fun q hq => ?_
    exact (h q hq).imp id fun hup hql => hl (hql ▸ hup)
  | ends fate answer l e => exact State.endWithReply_keeps_linksQuiet fate answer l e hs
  | leaves l =>
    refine linksQuiet_of_others (l := l) hs (fun _ => s.linkQuiet_leaveUp l) (fun m hlm => ?_) (fun m hlm e => ?_)
      (fun m hlm => ?_) fun q hq => ?_
    · rw [State.port_leaveUp, if_neg hlm]
    · rw [State.entry_leaveUp, if_neg hlm]
    · rw [State.waitList_leaveUp, if_neg hlm]
    · rw [State.engine_leaveUp] at hq
      exact (List.mem_filter.1 hq).1
  | @admits l e r hup _ _ =>
    refine linksQuiet_of_others (l := l) hs (fun hn => absurd hup hn) (fun _ _ => rfl) (fun m hlm f => ?_)
      (fun m hlm => ?_) fun _ => id
    · rw [State.entry_enterTracker, if_neg fun h => hlm h.1]
    · rw [State.waitList_enterTracker, if_neg hlm]
  | @grants l e rest r g _ hentry _ =>
    have hup : (s.port l).state = .up := up_of_busy hs (e := e) (by simp [hentry])
    refine linksQuiet_of_others (l := l) hs (fun hn => absurd hup hn) (fun _ _ => rfl) (fun m hlm f => ?_)
      (fun m hlm => ?_) fun _ => id
    · rw [State.entry_grantTag, if_neg fun h => hlm h.1]
    · rw [State.waitList_grantTag, if_neg hlm]
  | target => exact hs
  | restarts _ _ _ hquiet _ => exact fun l _ => hquiet l

/-! ## Timers and signals (R158, R160) -/

/-- A port that changes neither its state, its timers nor its signal keeps them as its state says. -/
theorem LinkPort.LineSound.of_eq {p q : LinkPort} (h : p.LineSound) (hstate : q.state = p.state)
    (hsignal : q.signal = p.signal) (hhello : q.helloTimer = p.helloTimer)
    (hshake : q.handshakeTimer = p.handshakeTimer) : q.LineSound := by
  unfold LinkPort.LineSound at h ⊢
  rwa [hstate, hsignal, hhello, hshake]

theorem FlowMove.keeps_timersAndSignals {s t : State} (h : FlowMove s t) (hs : timersAndSignals s) :
    timersAndSignals t := by
  rw [timersAndSignals_iff] at hs ⊢
  intro m
  cases h with
  | same h =>
    obtain ⟨n, u, hp⟩ := h.ports m
    exact (hs m).of_eq (by rw [hp]) (by rw [hp]) (by rw [hp]) (by rw [hp])
  | port _ hline =>
    rw [State.port_setPort]
    split
    · exact hline hs
    · exact hs m
  | engine | admits | grants | target => exact hs m
  | ends fate answer l e =>
    obtain heq | ⟨r, hr, -⟩ := State.endWithReply_cases fate answer l e s
    · rw [heq]
      exact hs m
    · rw [State.port_endWithReply hr]
      split
      · next hlm => exact hlm ▸ hs l
      · exact hs m
  | leaves l =>
    rw [State.port_leaveUp]
    split
    · exact hs l
    · exact hs m
  | restarts _ _ _ _ hline => exact hline m

end Sys2Proof.Machine
end

section
/-! SUPPORT. The commands and control requests that leave the transactions in flight as they are: those on windows,
domains, bindings and the timeout setting, and PROBE. -/

namespace Sys2Proof.Machine

/-! ## The shared operations -/

theorem State.pendNotice_sameFlow (d : DomId) (skip : Option LinkId) (s : State) :
    s.SameFlow (s.pendNotice d skip) := by
  refine .of_ports rfl rfl rfl rfl fun l => ?_
  rw [State.port_pendNotice]
  split <;> exact ⟨_, _, rfl⟩

theorem State.noticeIfSelf_sameFlow (w : Window) (s : State) : s.SameFlow (s.noticeIfSelf w) :=
  .ite (s.pendNotice_sameFlow ..) (.refl s)

theorem State.selfChanged_sameFlow (q : CtlRequest) (d : DomId) (s : State) : s.SameFlow (s.selfChanged q d) :=
  .after (State.pendNotice_sameFlow d (some q.link) (s.raiseDom d .selfChanged)) (.of_tables rfl rfl rfl rfl rfl)

theorem State.removeWindow_sameFlow (d : DomId) (i : SlotId) (s : State) : s.SameFlow (s.removeWindow d i) :=
  .of_tables (by simp) (by simp) (by simp) (by simp) (by simp)

theorem State.removeAll_sameFlow (d : DomId) (s : State) : s.SameFlow (s.removeAll d) :=
  .trans (.foldl (fun s i => s.removeWindow_sameFlow d i) _ s) (.of_tables rfl rfl rfl rfl rfl)

theorem State.unbindAll_sameFlow (d : DomId) (s : State) : s.SameFlow (s.unbindAll d) := by
  refine .of_ports rfl rfl rfl rfl fun l => ?_
  simp only [State.port_eq, State.unbindAll, Fin.getElem_fin, Vector.getElem_ofFn]
  exact ⟨_, _, rfl⟩

/-! ## The takings at the engine -/

theorem finishCommand_sameFlow (seq : BitVec 8) (r : Done) : r.state.SameFlow (finishCommand seq r) :=
  ⟨rfl, rfl, rfl, fun _ _ _ => .rfl, rfl, fun _ => ⟨_, _, rfl⟩⟩

theorem takeCommand_flowMoves {mine : BitVec 8 → Bool} {act : Args → State → Done} {s t : State}
    (hact : ∀ a, FlowMoves s (act a s).state) (h : takeCommand mine act s = .next t) : FlowMoves s t := by
  obtain rfl | ⟨c, -, -, -, rfl⟩ := takeCommand_cases h
  · exact .refl
  · exact (hact c.args).then_same (finishCommand_sameFlow ..)

/-- A taking of a request that leaves the transactions in flight: the request leaves the queue, and its link is handed
the reply (R127). -/
theorem takeControl_flowMoves {op : CtlOp} {act : CtlRequest → State → CtlDone} {s t : State}
    (hact : ∀ q, s.SameFlow (act q s).state) (h : takeControl op act s = .next t) : FlowMoves s t := by
  obtain rfl | ⟨q, rest, hq, -, -, rfl⟩ := takeControl_cases h
  · exact .refl
  · have hdone := hact q
    generalize hu : act q s = r at hdone
    obtain ⟨u, code, body⟩ := r
    have hqueue : u.engine.inband = q :: rest := hdone.inband.trans hq
    have hhand : FlowMoves u (u.handCtl q.link ⟨q.tag, q.byte2, code, body⟩) :=
      .single (.port (fun hs hn => absurd (up_of_inband hs (by rw [hqueue]; exact .head _)) hn) fun hs => hs q.link)
    have hpop : FlowMove (u.handCtl q.link ⟨q.tag, q.byte2, code, body⟩)
        ((u.handCtl q.link ⟨q.tag, q.byte2, code, body⟩).setEngine
          { u.engine with inband := rest, lastServed := .inband }) :=
      .engine fun p hp => .inl (by
        change p ∈ u.engine.inband
        rw [hqueue]
        exact .tail _ hp)
    exact ((FlowMoves.same hdone).trans hhand).tail hpop

theorem checked_sameFlow {check : Option ResultCode} {effect : Unit → Done} {s : State}
    (h : s.SameFlow (effect ()).state) : s.SameFlow (Done.checked check effect s).state := by
  cases check with
  | none => exact h
  | some c => exact .refl s

theorem checked_flowMoves {check : Option ResultCode} {effect : Unit → Done} {s : State}
    (h : FlowMoves s (effect ()).state) : FlowMoves s (Done.checked check effect s).state := by
  cases check with
  | none => exact h
  | some c => exact .refl

/-! ## Commands on windows -/

theorem installAct_sameFlow (a : Args) (s : State) : s.SameFlow (installAct a s).state := by
  refine checked_sameFlow ?_
  unfold installEffect
  dsimp only
  split
  · exact .refl s
  · exact .of_tables rfl rfl rfl rfl rfl

theorem replaceAct_sameFlow (a : Args) (s : State) : s.SameFlow (replaceAct a s).state := by
  refine checked_sameFlow ?_
  unfold replaceEffect
  dsimp only
  split
  · exact .refl s
  · exact .after (State.removeWindow_sameFlow ..) (.of_tables rfl rfl rfl rfl rfl)

theorem retireAct_sameFlow (a : Args) (s : State) : s.SameFlow (retireAct a s).state :=
  checked_sameFlow (.trans (State.removeWindow_sameFlow ..) (State.noticeIfSelf_sameFlow ..))

theorem suspendAct_sameFlow (a : Args) (s : State) : s.SameFlow (suspendAct a s).state :=
  checked_sameFlow (.after (State.noticeIfSelf_sameFlow ..) (.of_tables rfl rfl rfl rfl rfl))

theorem resumeAct_sameFlow (a : Args) (s : State) : s.SameFlow (resumeAct a s).state :=
  checked_sameFlow (.after (State.noticeIfSelf_sameFlow ..) (.of_tables rfl rfl rfl rfl rfl))

theorem setBudgetAct_sameFlow (a : Args) (s : State) : s.SameFlow (setBudgetAct a s).state :=
  checked_sameFlow (.of_tables rfl rfl rfl rfl rfl)

theorem readWindowAct_sameFlow (a : Args) (s : State) : s.SameFlow (readWindowAct a s).state :=
  checked_sameFlow (.refl s)

/-! ## Commands on domains -/

theorem domainOpenAct_sameFlow (a : Args) (s : State) : s.SameFlow (domainOpenAct a s).state :=
  checked_sameFlow (.of_tables rfl rfl rfl rfl rfl)

theorem domainSetAct_sameFlow (a : Args) (s : State) : s.SameFlow (domainSetAct a s).state :=
  checked_sameFlow (.of_tables rfl rfl rfl rfl rfl)

theorem setFenceAct_sameFlow (a : Args) (s : State) : s.SameFlow (setFenceAct a s).state :=
  checked_sameFlow (.of_tables rfl rfl rfl rfl rfl)

/-- FREEZE, THAW, HALT and RELEASE write one domain and pend its notice (R38, R43 to R46). -/
theorem domainChange_sameFlow (check : Args → State → Option ResultCode) (f : Domain → Domain) (a : Args) (s : State) :
    s.SameFlow (Done.checked (check a s) (fun _ => domainChange f a s) s).state :=
  checked_sameFlow (.after (State.pendNotice_sameFlow ..) (.of_tables rfl rfl rfl rfl rfl))

theorem purgeAct_sameFlow (a : Args) (s : State) : s.SameFlow (purgeAct a s).state := by
  refine checked_sameFlow ?_
  have hleft : s.SameFlow ((s.removeAll (argDom a)).unbindAll (argDom a)) :=
    (s.removeAll_sameFlow _).trans (State.unbindAll_sameFlow ..)
  unfold purgeEffect
  dsimp only
  split <;> exact hleft.trans (.of_tables rfl rfl rfl rfl rfl)

theorem readDomainAct_sameFlow (a : Args) (s : State) : s.SameFlow (readDomainAct a s).state :=
  checked_sameFlow (.refl s)

theorem readChainAct_sameFlow (a : Args) (s : State) : s.SameFlow (readChainAct a s).state :=
  checked_sameFlow (.refl s)

/-! ## Commands on bindings, the timeout setting, PROBE -/

theorem bindAct_sameFlow (a : Args) (s : State) : s.SameFlow (bindAct a s).state := by
  refine checked_sameFlow ?_
  unfold bindEffect
  split
  · exact .refl s
  · exact .of_tables rfl rfl rfl rfl rfl

theorem unbindAct_sameFlow (a : Args) (s : State) : s.SameFlow (unbindAct a s).state := by
  refine checked_sameFlow ?_
  unfold unbindEffect
  split
  · exact .refl s
  · exact .after (State.SameFlow.modPort _ fun _ => ⟨_, _, rfl⟩) (.of_tables rfl rfl rfl rfl rfl)

theorem streamSetAct_sameFlow (a : Args) (s : State) : s.SameFlow (streamSetAct a s).state := by
  refine checked_sameFlow ?_
  unfold streamSetEffect
  split
  · exact .refl s
  · exact .of_tables rfl rfl rfl rfl rfl

theorem setTimeoutAct_sameFlow (a : Args) (s : State) : s.SameFlow (setTimeoutAct a s).state :=
  checked_sameFlow ⟨rfl, rfl, rfl, fun _ _ _ => .rfl, rfl, fun _ => ⟨_, _, rfl⟩⟩

theorem probeAct_sameFlow (a : Args) (s : State) : s.SameFlow (probeAct a s).state := by
  refine checked_sameFlow ?_
  unfold probeEffect
  split <;> exact .refl s

/-! ## Control requests -/

theorem openAct_sameFlow (q : CtlRequest) (s : State) : s.SameFlow (openAct q s).state := by
  unfold openAct
  split
  · exact .refl s
  · unfold openEffect
    split
    · exact .after (State.selfChanged_sameFlow ..) (.of_tables rfl rfl rfl rfl rfl)
    · exact .refl s

theorem closeAct_sameFlow (q : CtlRequest) (s : State) : s.SameFlow (closeAct q s).state := by
  unfold closeAct
  split
  · exact .refl s
  · exact .trans (State.removeWindow_sameFlow ..) (State.selfChanged_sameFlow ..)

theorem narrowAct_sameFlow (q : CtlRequest) (s : State) : s.SameFlow (narrowAct q s).state := by
  unfold narrowAct
  split
  · exact .refl s
  · exact .after (State.selfChanged_sameFlow ..) (.of_tables rfl rfl rfl rfl rfl)

theorem statusAct_sameFlow (q : CtlRequest) (s : State) : s.SameFlow (statusAct q s).state := by
  unfold statusAct
  split <;> exact .refl s

end Sys2Proof.Machine
end

section
/-! SUPPORT. The moves of the transactions in flight that the links make: training, going down, resetting,
LINK_SET, and the requests that arrive. -/

namespace Sys2Proof.Machine

/-! ## A port written twice -/

theorem State.setPort_setPort (l : LinkId) (p q : LinkPort) (s : State) :
    (s.setPort l p).setPort l q = s.setPort l q := by
  simp [State.setPort]

theorem State.port_setPort_same (l : LinkId) (p : LinkPort) (s : State) : (s.setPort l p).port l = p := by
  rw [State.port_setPort, if_pos rfl]

theorem State.setPort_port (l : LinkId) (s : State) : s.setPort l (s.port l) = s := by
  simp [State.setPort, State.port_eq]

theorem State.modPort_setPort (l : LinkId) (p : LinkPort) (f : LinkPort → LinkPort) (s : State) :
    (s.setPort l p).modPort l f = s.setPort l (f p) := by
  rw [State.modPort, State.port_setPort_same, State.setPort_setPort]

/-! ## Leaving UP with a changed port (R160, R169) -/

theorem State.noteFreed_setPort (d : DomId) (l : LinkId) (p : LinkPort) (s : State) :
    (s.setPort l p).noteFreed d = (s.noteFreed d).setPort l p := by
  by_cases hlast : (s.domain d).state = .purging ∧ (s.domain d).drainingCount - 1 = 0
  · rw [State.noteFreed_last hlast, State.noteFreed_last (s := s.setPort l p) hlast]
    rfl
  · rw [State.noteFreed_not_last hlast, State.noteFreed_not_last (s := s.setPort l p) hlast]
    rfl

theorem State.dropRef_setPort (h : Handle) (l : LinkId) (p : LinkPort) (s : State) :
    (s.setPort l p).dropRef h = (s.dropRef h).setPort l p := by
  by_cases hg : (s.window h.slot).generation = h.generation
  · by_cases hlast : (s.window h.slot).state = .draining ∧ (s.window h.slot).refs - 1 = 0
    · rw [State.dropRef_last hg hlast, State.dropRef_last (s := s.setPort l p) hg hlast, ← State.noteFreed_setPort]
      rfl
    · rw [State.dropRef_not_last hg hlast, State.dropRef_not_last (s := s.setPort l p) hg hlast]
      rfl
  · rw [State.dropRef_stale hg, State.dropRef_stale (s := s.setPort l p) hg]

theorem State.endEntry_setPort (fate : TagFate) (l m : LinkId) (e : EntryNo) (p : LinkPort) (s : State) :
    (s.setPort m p).endEntry fate l e = (s.endEntry fate l e).setPort m p := by
  cases hx : s.entry l e with
  | free => rw [State.endEntry_free hx, State.endEntry_free (by rwa [State.entry_setPort])]
  | waitTag r =>
    rw [State.endEntry_waitTag hx, State.endEntry_waitTag (by rwa [State.entry_setPort]), ← State.dropRef_setPort]
    rfl
  | issued r g dl =>
    rw [State.endEntry_issued hx, State.endEntry_issued (by rwa [State.entry_setPort]), ← State.dropRef_setPort]
    rfl

theorem State.foldl_endEntry_setPort (l m : LinkId) (p : LinkPort) (es : List EntryNo) (s : State) :
    es.foldl (fun s e => s.endEntry .quarantined l e) (s.setPort m p) =
      (es.foldl (fun s e => s.endEntry .quarantined l e) s).setPort m p := by
  induction es generalizing s with
  | nil => rfl
  | cons e rest ih => rw [List.foldl_cons, List.foldl_cons, State.endEntry_setPort, ih]

theorem State.endLinkEntries_setPort (l m : LinkId) (p : LinkPort) (s : State) :
    (s.setPort m p).endLinkEntries l = (s.endLinkEntries l).setPort m p := by
  rw [State.endLinkEntries, State.endLinkEntries, State.foldl_endEntry_setPort]
  generalize (List.finRange 8).foldl (fun s e => s.endEntry .quarantined l e) s = u
  rfl

/-- The reset effects on a port that was changed before. -/
theorem State.leaveUp_setPort (l : LinkId) (p : LinkPort) (s : State) :
    (s.setPort l p).leaveUp l = (s.leaveUp l).setPort l p.resetEffects := by
  have hreset : ((s.setPort l p).endLinkEntries l).modPort l LinkPort.resetEffects =
      ((s.endLinkEntries l).modPort l LinkPort.resetEffects).setPort l p.resetEffects := by
    rw [State.endLinkEntries_setPort, State.modPort_setPort, State.modPort, State.setPort_setPort]
  have hissued : (s.setPort l p).linkHasIssued l = s.linkHasIssued l := by
    unfold State.linkHasIssued
    simp only [State.entry_setPort]
  unfold State.leaveUp
  simp only [hreset, hissued]
  generalize (s.endLinkEntries l).modPort l LinkPort.resetEffects = u
  split <;> rfl

/-! ## The states of a link -/

/-- A quiet link enters TRAINING with its signal present (R160, R161). -/
theorem FlowMoves.entersTraining {s : State} {l : LinkId} {p : LinkPort} (hsame : (s.port l).SameTraffic p)
    (hquiet : linksQuietUnlessUp s → linkQuiet s l) (hsignal : timersAndSignals s → p.signal = true) :
    FlowMoves s ((s.setPort l p).enterTraining l) := by
  rw [State.enterTraining, State.modPort_setPort]
  have hline : FlowMoves s (s.setPort l
      { p with state := .training, helloTimer := some (s.now + Config.helloPeriod), handshakeTimer := none }) :=
    FlowMoves.line (hsame.trans (.line ..)) hquiet
      fun hs => by simp [LinkPort.LineSound, hsignal hs]
  exact hline.then_same (.of_tables rfl rfl rfl rfl rfl)

/-- A quiet link enters DOWN, and TRAINING at once if its signal is present (R160). -/
theorem FlowMoves.entersDown {s : State} {l : LinkId} {p : LinkPort} (hsame : (s.port l).SameTraffic p)
    (hquiet : linksQuietUnlessUp s → linkQuiet s l) : FlowMoves s ((s.setPort l p).enterDown l) := by
  rw [State.enterDown, State.modPort_setPort, State.port_setPort_same]
  refine FlowMoves.ite (fun hsignal => ?_) fun hsignal => ?_
  · exact FlowMoves.entersTraining (hsame.trans (.line ..)) hquiet
      fun _ => hsignal
  · exact FlowMoves.line (hsame.trans (.line ..)) hquiet
      fun _ => by simp [LinkPort.LineSound, hsignal]

theorem State.enterTraining_flowMoves {l : LinkId} {s : State} (hquiet : linksQuietUnlessUp s → linkQuiet s l)
    (hsignal : timersAndSignals s → (s.port l).signal = true) : FlowMoves s (s.enterTraining l) := by
  have h := FlowMoves.entersTraining (.refl (s.port l)) hquiet hsignal
  rwa [State.setPort_port] at h

theorem State.enterDown_flowMoves {l : LinkId} {s : State} (hquiet : linksQuietUnlessUp s → linkQuiet s l) :
    FlowMoves s (s.enterDown l) := by
  have h := FlowMoves.entersDown (.refl (s.port l)) hquiet
  rwa [State.setPort_port] at h

theorem State.enterDisabled_flowMoves {l : LinkId} {s : State} (hquiet : linksQuietUnlessUp s → linkQuiet s l) :
    FlowMoves s (s.enterDisabled l) :=
  FlowMoves.line (.line ..) hquiet fun _ => by simp [LinkPort.LineSound]

/-- The signal of an UP link is present, and none of its timers is set (R158, R160). -/
theorem lineSound_up {s : State} {l : LinkId} (hs : timersAndSignals s) (hup : (s.port l).state = .up) :
    (s.port l).signal = true ∧ (s.port l).helloTimer = none := by
  obtain ⟨hhello, -, -, hsignal⟩ := (timersAndSignals_iff s).1 hs l
  exact ⟨hsignal (by simp [hup]), by simpa [hup] using hhello⟩

theorem State.partReset_flowMoves {l : LinkId} {s : State} (hup : (s.port l).state = .up) :
    FlowMoves s (s.partReset l) := by
  have hleft : FlowMoves s ((s.leaveUp l).send l .linkReset) :=
    FlowMoves.then_same (.single (.leaves l)) (.of_tables rfl rfl rfl rfl rfl)
  have hup' : ((s.leaveUp l).port l).state = .up := by
    rw [State.port_leaveUp, if_pos rfl]
    exact hup
  refine hleft.trans (FlowMoves.line (.line ..) (fun _ => s.linkQuiet_leaveUp l)
    fun hs => ?_)
  obtain ⟨hsignal, hhello⟩ := lineSound_up (s := s.leaveUp l) hs hup'
  simp [LinkPort.LineSound, hsignal, hhello]

theorem State.protocolError_flowMoves {l : LinkId} (c : ErrorCause) {s : State} (hup : (s.port l).state = .up) :
    FlowMoves s (s.protocolError l c) := by
  have hcause : FlowMoves s (s.modPort l fun p => { p with errorCause := some c }) :=
    FlowMoves.traffic hup rfl rfl rfl rfl
  have hraise : FlowMoves s ((s.modPort l fun p => { p with errorCause := some c }).raiseLink l .protocol) :=
    hcause.then_same (.of_tables rfl rfl rfl rfl rfl)
  exact hraise.trans (State.partReset_flowMoves (by rw [State.port_raiseLink, State.port_modPort, if_pos rfl, hup]))

/-! ## LINK_SET (R172) -/

theorem State.linkEnable_flowMoves (l : LinkId) (s : State) : FlowMoves s (s.linkEnable l) :=
  FlowMoves.ite (fun h => State.enterDown_flowMoves fun hs => hs l (by simp [h])) fun _ => .refl

theorem State.linkDisable_flowMoves (l : LinkId) (s : State) : FlowMoves s (s.linkDisable l) := by
  unfold State.linkDisable
  split
  · exact .refl
  · have hleft : FlowMoves s ((s.leaveUp l).send l .linkReset) :=
      FlowMoves.then_same (.single (.leaves l)) (.of_tables rfl rfl rfl rfl rfl)
    exact hleft.trans (State.enterDisabled_flowMoves fun _ => s.linkQuiet_leaveUp l)
  all_goals
    next h => exact State.enterDisabled_flowMoves fun hs => hs l (by simp [h])

theorem linkSetAct_flowMoves (a : Args) (s : State) : FlowMoves s (linkSetAct a s).state := by
  refine checked_flowMoves ?_
  exact FlowMoves.ite (fun _ => s.linkEnable_flowMoves _) fun _ => FlowMoves.ite (fun _ => s.linkDisable_flowMoves _)
    fun _ => FlowMoves.ite (fun hup => State.partReset_flowMoves hup) fun _ => .refl

/-! ## Messages that arrive -/

theorem State.dataArrives_flowMoves (l : LinkId) (kind : ReqKind) (tag : PeerTag) (stream : StreamNo) (addr : InAddr)
    (len : Nat) (data : Option (List Byte)) (s : State) :
    FlowMoves s (s.dataArrives l kind tag stream addr len data) := by
  refine FlowMoves.ite (fun hup => ?_) fun _ => .refl
  split
  · exact FlowMoves.traffic hup rfl rfl rfl rfl
  · exact State.protocolError_flowMoves _ hup
  · exact State.protocolError_flowMoves _ hup

/-- The reply to a control request that the port itself answers is handed to an UP link (R142, R143). -/
theorem State.handCtl_flowMoves {l : LinkId} {s : State} (r : CtlReply) (hup : (s.port l).state = .up) :
    FlowMoves s (s.handCtl l r) := FlowMoves.traffic hup rfl rfl rfl rfl

theorem State.ctlArrives_flowMoves {l : LinkId} {s : State} (tag : CtlTag) (byte2 op : Byte) (body : List Byte)
    (hup : (s.port l).state = .up) : FlowMoves s (s.ctlArrives l tag byte2 op body) := by
  have haccept : FlowMoves s (s.modPort l (LinkPort.acceptCtl tag)) := FlowMoves.traffic hup rfl rfl rfl rfl
  have hup' : ((s.modPort l (LinkPort.acceptCtl tag)).port l).state = .up := by
    rw [State.port_modPort, if_pos rfl]
    exact hup
  unfold State.ctlArrives
  refine FlowMoves.ite (fun _ => State.protocolError_flowMoves _ hup) fun _ =>
    FlowMoves.ite (fun _ => State.protocolError_flowMoves _ hup) fun _ => ?_
  split
  · exact haccept.trans (State.handCtl_flowMoves _ hup')
  · refine FlowMoves.ite (fun _ => haccept.trans (State.handCtl_flowMoves _ hup')) fun _ =>
      FlowMoves.ite (fun _ => ?_) fun _ => ?_
    · exact FlowMoves.then_same (haccept.trans (State.handCtl_flowMoves _ hup')) (.of_tables rfl rfl rfl rfl rfl)
    · refine haccept.tail (.engine fun q hq => ?_)
      obtain hq | hq := List.mem_append.1 hq
      · exact .inl hq
      · rw [List.mem_singleton.1 hq]
        exact .inr hup'

end Sys2Proof.Machine
end

section
/-! CERTIFICATES. The moves of the transactions in flight that every event and every step makes; and so the laws of the
tracker, of quiet links and of timers and signals, which every step keeps. -/

namespace Sys2Proof.Machine

/-! ## An examination (R88, R89, R90) -/

/-- A window admits a request only to a target that is ONLINE (R64). -/
theorem State.ruling_admits_online {s : State} {q : Request} {d : DomId} {i : SlotId} (h : s.ruling q = .admits d i) :
    s.target (s.window i).target = .online := by
  obtain ⟨e, he⟩ := State.ruling_of_decided (s := s) (q := q) (i := i) (by rw [h]; rfl)
  have hwin : s.windowRuling e i q = .admits d i := he.symm.trans h
  unfold State.windowRuling at hwin
  dsimp only at hwin
  split_ifs at hwin with _ _ _ hoffline
  cases hx : s.target (s.window i).target with
  | online => rfl
  | offline => exact absurd hx hoffline

theorem State.countFault_sameFlow (d : DomId) (k : FaultKind) (q : Request) (s : State) :
    s.SameFlow (s.countFault d k q) :=
  .ite (.after (State.pendNotice_sameFlow ..) (.of_tables rfl rfl rfl rfl rfl)) (.of_tables rfl rfl rfl rfl rfl)

theorem State.noteUnbound_sameFlow (l : LinkId) (st : DataStream) (s : State) : s.SameFlow (s.noteUnbound l st) := by
  have hset : s.SameFlow (s.modPort l fun p => { p with unboundSet := (s.port l).unboundSet.set st true }) :=
    .modPort s fun _ => ⟨_, _, rfl⟩
  exact .ite (hset.trans (.of_tables rfl rfl rfl rfl rfl)) hset

theorem State.plainChanges_sameFlow (q : Request) (r : Ruling) (s : State) : s.SameFlow (s.plainChanges q r) := by
  unfold State.plainChanges
  split
  case h_2 => exact s.noteUnbound_sameFlow ..
  case h_4 | h_8 | h_9 => exact s.countFault_sameFlow ..
  case h_11 | h_12 => exact .of_tables (by simp) (by simp) (by simp) (by simp) (by simp)
  all_goals exact .refl s

theorem State.specChanges_sameFlow (q : Request) (r : Ruling) (s : State) : s.SameFlow (s.specChanges q r) := by
  unfold State.specChanges
  split
  · exact .of_tables (by simp) (by simp) (by simp) (by simp) (by simp)
  · exact .refl s

theorem State.resolutionChanges_sameFlow (q : Request) (r : Ruling) (s : State) :
    s.SameFlow (s.resolutionChanges q r) := by
  unfold State.resolutionChanges
  split
  · exact s.plainChanges_sameFlow q r
  · exact s.plainChanges_sameFlow q r
  · exact s.specChanges_sameFlow q r

theorem State.examine_flowMoves {l : LinkId} {e : EntryNo} {q : Request} {rest : List Request} {s : State}
    (hup : (s.port l).state = .up) (hfree : s.entry l e = .free) : FlowMoves s (s.examine l e q rest) := by
  have hpop : FlowMoves s (s.modPort l fun p => { p with ingress := rest }) := FlowMoves.traffic hup rfl rfl rfl rfl
  have hsame := State.resolutionChanges_sameFlow q (s.ruling q) (s.modPort l fun p => { p with ingress := rest })
  have hchanges := hpop.then_same hsame
  unfold State.examine
  dsimp only
  generalize (s.modPort l fun p => { p with ingress := rest }).resolutionChanges q (s.ruling q) = t at hsame hchanges ⊢
  have hup' : (t.port l).state = .up := by
    obtain ⟨n, u, hp⟩ := hsame.ports l
    rw [hp, State.port_modPort, if_pos rfl]
    exact hup
  split
  · exact hchanges.trans (FlowMoves.traffic hup' rfl rfl rfl rfl)
  · exact hchanges.trans (FlowMoves.traffic hup' rfl rfl rfl rfl)
  · next hout =>
    obtain ⟨d, i, hr⟩ := Ruling.outcome_eq_admitted hout
    rw [hr]
    refine hchanges.tail (.admits hup' ?_ ?_)
    · rw [State.entry_eq, hsame.entries]
      exact hfree
    · rw [State.target_eq, hsame.targets]
      exact State.ruling_admits_online hr

theorem execExamination_flowMoves {l : LinkId} {s t : State} (h : execExamination l s = .next t) : FlowMoves s t := by
  unfold execExamination at h
  split at h
  · next q rest e _ he =>
    split at h
    · next hup =>
      cases h
      exact State.examine_flowMoves hup (State.freeEntry_isFree he)
    · cases h
      exact .refl
  · cases h
    exact .refl

/-! ## The fabric side -/

theorem State.endAll_flowMoves (les : List (LinkId × EntryNo)) (s : State) : FlowMoves s (s.endAll les) :=
  FlowMoves.foldl (fun _ _ => .single (.ends ..)) les s

/-- The waiting entries of a target that goes OFFLINE have ended before (R102). -/
theorem State.targetOffline_flowMoves (x : TargetId) (s : State) : FlowMoves s (s.targetOffline x) := by
  refine (s.endAll_flowMoves _).tail (.target fun _ l e r hr hx => ?_)
  rw [State.entry_endAll] at hr
  split at hr
  · cases hr
  · next hnot =>
    rw [State.entriesTo_waiting] at hnot
    exact hnot (mem_entriesWith.2 (by simpa [hr, Spec.waitingFor] using hx))

theorem State.targetReturn_flowMoves (x : TargetId) (s : State) : FlowMoves s (s.targetReturn x) := by
  have hfreed : ∀ u : State, u.SameFlow (u.freeQuarantined x) := fun u => by
    refine ⟨rfl, rfl, rfl, fun g l e => ?_, rfl, fun _ => ⟨_, _, rfl⟩⟩
    simp only [State.tag_eq, State.freeQuarantined, State.setFabric_fabric, Fin.getElem_fin, Vector.getElem_map]
    split
    · next h => simp [h]
    · rfl
  have hended := FlowMoves.then_same (s.endAll_flowMoves (s.entriesTo x Entry.isIssued)) (hfreed _)
  exact hended.tail (.target fun h => by cases h)

theorem targetSetAct_flowMoves (a : Args) (s : State) : FlowMoves s (targetSetAct a s).state := by
  refine checked_flowMoves ?_
  unfold targetSetEffect
  dsimp only
  split
  · exact .refl
  · exact .refl
  · exact s.targetOffline_flowMoves _
  · exact s.targetReturn_flowMoves _

theorem State.freeTag_isFree {s : State} {g : TagNo} (h : s.freeTag = some g) : s.tag g = .free := by
  have hfree := List.find?_some h
  simpa using hfree

theorem execGrant_flowMoves {s t : State} (h : execGrant s = .next t) : FlowMoves s t := by
  unfold execGrant at h
  split at h
  · next g l hg _ =>
    have hfree : s.tag g = .free := State.freeTag_isFree hg
    split at h
    · cases h
      exact .refl
    · next e he =>
      obtain ⟨rest, hlist⟩ := List.head?_eq_some_iff.1 he
      split at h
      · next r hr =>
        cases h
        exact .single (.grants hlist hr hfree)
      all_goals
        cases h
        exact .refl
  · cases h
    exact .refl

theorem execCompletion_flowMoves {tag : Nat} {st : CompletionStatus} {data : List Byte} {s t : State}
    (h : execCompletion tag st data s = .next t) : FlowMoves s t := by
  unfold execCompletion at h
  split at h
  · next htag =>
    split at h
    · cases h
      exact FlowMoves.same (.of_tables rfl rfl rfl rfl rfl)
    · next x hx =>
      cases h
      refine FlowMoves.same ⟨rfl, rfl, rfl, fun u l e => ?_, rfl, fun _ => ⟨_, _, rfl⟩⟩
      rw [State.tag_raiseDev, State.tag_setTag]
      split
      · next hu => simp [← hu, hx]
      · rfl
    · cases h
      exact .single (.ends ..)
  · cases h
    exact FlowMoves.same (.of_tables rfl rfl rfl rfl rfl)

theorem execDeadlineExpiry_flowMoves {l : LinkId} {e : EntryNo} {s t : State}
    (h : execDeadlineExpiry l e s = .next t) : FlowMoves s t := by
  unfold execDeadlineExpiry at h
  split at h
  · next r g dl _ =>
    cases h
    have hreach : FlowMoves s (s.reach dl) := FlowMoves.same (.of_tables rfl rfl rfl rfl rfl)
    exact FlowMoves.then_same (hreach.tail (.ends ..)) (.of_tables rfl rfl rfl rfl rfl)
  all_goals
    cases h
    exact .refl

/-! ## The links -/

theorem execCtl_flowMoves {l : LinkId} {tag : CtlTag} {byte2 op : Byte} {body : List Byte} {s t : State}
    (h : execCtl l tag byte2 op body s = .next t) : FlowMoves s t := by
  cases h
  exact FlowMoves.ite (fun hup => State.ctlArrives_flowMoves tag byte2 op body hup) fun _ => .refl

theorem execNoticeAck_flowMoves {l : LinkId} {s t : State} (h : execNoticeAck l s = .next t) : FlowMoves s t := by
  cases h
  refine FlowMoves.ite (fun hup => ?_) fun _ => .refl
  split
  · exact FlowMoves.traffic hup rfl rfl rfl rfl
  · exact State.protocolError_flowMoves _ hup
  · exact .refl

theorem execHello_flowMoves {l : LinkId} {s t : State} (h : execHello l s = .next t) : FlowMoves s t := by
  cases h
  refine FlowMoves.ite (fun htrain => ?_) fun _ => .refl
  have hport : FlowMoves s (s.modPort l LinkPort.comeUp) := by
    refine .single (.port (fun _ hn => absurd rfl hn) fun hs => ?_)
    obtain ⟨-, hshake, -, hsignal⟩ := (timersAndSignals_iff s).1 hs l
    have hshake' : (s.port l).handshakeTimer = none := by simpa [htrain] using hshake
    simp [LinkPort.LineSound, LinkPort.comeUp, hshake', hsignal (.inl htrain)]
  exact hport.then_same (.of_tables rfl rfl rfl rfl rfl)

theorem execLinkReset_flowMoves {l : LinkId} {s t : State} (h : execLinkReset l s = .next t) : FlowMoves s t := by
  cases h
  split
  · next hup =>
    have hleft : FlowMoves s ((s.leaveUp l).send l .linkReset) :=
      FlowMoves.then_same (.single (.leaves l)) (.of_tables rfl rfl rfl rfl rfl)
    refine hleft.trans (State.enterTraining_flowMoves (fun _ => s.linkQuiet_leaveUp l) fun hs => ?_)
    exact (lineSound_up (s := s.leaveUp l) hs (by rw [State.port_leaveUp, if_pos rfl]; exact hup)).1
  · next hreset =>
    refine State.enterTraining_flowMoves (fun hs => hs l (by simp [hreset])) fun hs => ?_
    obtain ⟨-, -, -, hsignal⟩ := (timersAndSignals_iff s).1 hs l
    exact hsignal (.inr (.inr hreset))
  all_goals exact .refl

theorem execUnknownKind_flowMoves {l : LinkId} {s t : State} (h : execUnknownKind l s = .next t) : FlowMoves s t := by
  cases h
  exact FlowMoves.ite (fun hup => State.protocolError_flowMoves _ hup) fun _ => .refl

theorem execSignalDetection_flowMoves {l : LinkId} {s t : State} (h : execSignalDetection l s = .next t) :
    FlowMoves s t := by
  cases h
  refine FlowMoves.ite (fun hdown => ?_) fun hdown => ?_
  · exact FlowMoves.entersTraining (.line ..) (fun hs => hs l (by simp [hdown]))
      fun _ => rfl
  · refine .single (.port (fun hs hn => linkQuiet_setPort (.line ..) (hs l hn)) fun hs => ?_)
    obtain ⟨hhello, hshake, -, -⟩ := (timersAndSignals_iff s).1 hs l
    exact ⟨hhello, hshake, fun hd => absurd hd hdown, fun _ => rfl⟩

theorem execSignalLoss_flowMoves {l : LinkId} {s t : State} (h : execSignalLoss l s = .next t) : FlowMoves s t := by
  cases h
  have hquiet : (s.port l).state ≠ .up → linksQuietUnlessUp s → linkQuiet s l := fun hn hs => hs l hn
  have hrecords : (s.port l).state = .disabled ∨ (s.port l).state = .down →
      FlowMoves s (s.modPort l fun p => { p with signal := false }) := fun hst => by
    refine FlowMoves.line (.line ..) (hquiet ?_) fun hs => ?_
    · rcases hst with hst | hst <;> simp [hst]
    · obtain ⟨hhello, hshake, -, -⟩ := (timersAndSignals_iff s).1 hs l
      refine ⟨hhello, hshake, fun _ => rfl, fun hst' => ?_⟩
      rcases hst with hst | hst <;> simp [hst] at hst'
  split
  · next hst => exact hrecords (.inl hst)
  · next hst => exact hrecords (.inr hst)
  · next hst => exact FlowMoves.entersDown (.line ..) (hquiet (by simp [hst]))
  · have hport : (s.leaveUp l).port l = (s.port l).resetEffects := by rw [State.port_leaveUp, if_pos rfl]
    rw [State.modPort, State.leaveUp_setPort]
    refine .trans (.single (.leaves l)) (FlowMoves.entersDown ?_ fun _ => s.linkQuiet_leaveUp l)
    rw [hport]
    exact .line ..
  · next hst => exact FlowMoves.entersDown (.line ..) (hquiet (by simp [hst]))

theorem execHelloTimerExpiry_flowMoves {l : LinkId} {s t : State} (h : execHelloTimerExpiry l s = .next t) :
    FlowMoves s t := by
  cases h
  split
  · next u htrain hhello =>
    have hreach : FlowMoves s (s.reach u) := FlowMoves.same (.of_tables rfl rfl rfl rfl rfl)
    have htimer : FlowMoves (s.reach u) ((s.reach u).modPort l fun p =>
        { p with helloTimer := some ((s.reach u).now + Config.helloPeriod) }) := by
      refine FlowMoves.line (.line ..)
        (fun hs => hs l (by change (s.port l).state ≠ .up; simp [htrain])) fun hs => ?_
      obtain ⟨-, hshake, hdown, hsignal⟩ := (timersAndSignals_iff s).1 hs l
      exact ⟨⟨fun _ => htrain, fun _ => rfl⟩, hshake, hdown, hsignal⟩
    exact FlowMoves.then_same (hreach.trans htimer) (.of_tables rfl rfl rfl rfl rfl)
  · exact .refl

theorem execHandshakeTimerExpiry_flowMoves {l : LinkId} {s t : State} (h : execHandshakeTimerExpiry l s = .next t) :
    FlowMoves s t := by
  cases h
  split
  · next u hreset _ =>
    have hreach : FlowMoves s (s.reach u) := FlowMoves.same (.of_tables rfl rfl rfl rfl rfl)
    refine hreach.trans (State.enterTraining_flowMoves
      (fun hs => hs l (by change (s.port l).state ≠ .up; simp [hreset])) fun hs => ?_)
    obtain ⟨-, -, -, hsignal⟩ := (timersAndSignals_iff s).1 hs l
    exact hsignal (.inr (.inr hreset))
  · exact .refl

theorem execNotice_flowMoves {l : LinkId} {s t : State} (h : execNotice l s = .next t) : FlowMoves s t := by
  cases h
  refine FlowMoves.ite (fun hready => ?_) fun _ => .refl
  obtain ⟨hup, -, -⟩ := (LinkPort.noticeReady_iff _).1 hready
  have hport : FlowMoves s
      (s.modPort l fun p => { p with noticeSet := StreamSet.none, noticeCredit := .outstanding }) :=
    FlowMoves.traffic hup rfl rfl rfl rfl
  exact hport.then_same (.of_tables rfl rfl rfl rfl rfl)

/-- A message leaves an UP link whose port changes with it (R144, R166). -/
theorem FlowMoves.sends {s : State} {l : LinkId} {p : LinkPort} (m : LinkMessage) (hup : (s.port l).state = .up)
    (hstate : p.state = (s.port l).state) (hsignal : p.signal = (s.port l).signal)
    (hhello : p.helloTimer = (s.port l).helloTimer) (hshake : p.handshakeTimer = (s.port l).handshakeTimer) :
    FlowMoves s ((s.setPort l p).send l m) :=
  (FlowMoves.traffic hup hstate hsignal hhello hshake).then_same (.of_tables rfl rfl rfl rfl rfl)

theorem execSendDataReply_flowMoves {l : LinkId} {tag : PeerTag} {s t : State}
    (h : execSendDataReply l tag s = .next t) : FlowMoves s t := by
  cases h
  refine FlowMoves.ite (fun hup => ?_) fun _ => .refl
  split
  · exact .refl
  · exact FlowMoves.sends _ hup rfl rfl rfl rfl

theorem execSendCtlReply_flowMoves {l : LinkId} {tag : CtlTag} {s t : State} (h : execSendCtlReply l tag s = .next t) :
    FlowMoves s t := by
  cases h
  refine FlowMoves.ite (fun hup => ?_) fun _ => .refl
  split
  · exact .refl
  · exact FlowMoves.sends _ hup rfl rfl rfl rfl

/-! ## Resets and register writes -/

theorem LinkPort.restarted_lineSound (signal : Bool) (now : Nat) : (LinkPort.restarted signal now).LineSound := by
  cases signal <;> simp [LinkPort.restarted, LinkPort.initial, LinkPort.LineSound]

/-- The part with nothing in flight, whose links start again (R174). -/
theorem State.restartLinks_flowMove {s u : State} (wasUp : LinkId → Bool) (hentry : ∀ l e, u.entry l e = .free)
    (hlist : ∀ l, u.waitList l = []) (htag : ∀ g l e, u.tag g ≠ .held l e) (hinband : u.engine.inband = []) :
    FlowMove s (u.restartLinks wasUp) := by
  have hport : ∀ l, (u.restartLinks wasUp).port l = LinkPort.restarted (u.port l).signal u.now := fun l => by
    simp [State.restartLinks_eq, State.port_eq]
  have hentry' : ∀ l e, (u.restartLinks wasUp).entry l e = .free := by rwa [State.restartLinks_eq]
  have hlist' : ∀ l, (u.restartLinks wasUp).waitList l = [] := by rwa [State.restartLinks_eq]
  have hinband' : (u.restartLinks wasUp).engine.inband = [] := by rwa [State.restartLinks_eq]
  refine .restarts hentry' hlist' (by rwa [State.restartLinks_eq]) (fun l => ?_) fun l => ?_
  · unfold linkQuiet
    rw [hport, hinband']
    simp only [hentry', hlist']
    cases (u.port l).signal <;> simp [LinkPort.restarted, LinkPort.initial]
  · rw [hport]
    exact LinkPort.restarted_lineSound ..

theorem State.powerOn_flowMove (s : State) : FlowMove s (s.powerOnTables.restartLinks fun _ => false) :=
  State.restartLinks_flowMove _ State.entry_reset State.waitList_reset
    (fun u l e h => by
      have hfree : s.powerOnTables.tag u = .free := State.tag_reset u
      simp [hfree] at h) rfl

theorem State.tagAfterDeviceReset_ne_held (s : State) (u : TagNo) (l : LinkId) (e : EntryNo) :
    s.tagAfterDeviceReset u ≠ .held l e := by
  unfold State.tagAfterDeviceReset
  split
  · simp
  · simp
  · split <;> simp

theorem State.deviceReset_flowMove (s : State) : FlowMove s s.deviceReset :=
  State.restartLinks_flowMove _ State.entry_reset State.waitList_reset
    (fun u l e h => s.tagAfterDeviceReset_ne_held u l e (by simpa [State.tag_eq, State.deviceResetTables] using h)) rfl

theorem State.writeCmdIssue_sameFlow (value : Word) (s : State) : s.SameFlow (s.writeCmdIssue value) := by
  unfold State.writeCmdIssue
  split
  · exact .of_tables rfl rfl rfl rfl rfl
  · exact ⟨rfl, rfl, rfl, fun _ _ _ => .rfl, rfl, fun _ => ⟨_, _, rfl⟩⟩

theorem State.removeUnbound_sameFlow (l : LinkId) (value : Word) (s : State) : s.SameFlow (s.removeUnbound l value) :=
  .modPort s fun _ => ⟨_, _, rfl⟩

theorem State.writeRegister_flowMoves (r : Register) (value : Word) (s : State) :
    FlowMoves s (s.writeRegister r value) := by
  cases r with
  | deviceControl => exact FlowMoves.ite (fun _ => .single s.deviceReset_flowMove) fun _ => .refl
  | cmdIssue => exact FlowMoves.same (s.writeCmdIssue_sameFlow value)
  | unboundSet l => exact FlowMoves.same (s.removeUnbound_sameFlow l value)
  | cmdArg | eventLatch | eventEnable | summaryEnable => exact FlowMoves.same (.of_tables rfl rfl rfl rfl rfl)
  | identification | cmdStatus | cmdResult | linkState | targetState0 | targetState1 | tagStatus | summary
  | unassigned =>
    exact .refl

/-! ## The moves of an event and of a step -/

/-- A command that leaves the transactions in flight, taken or not. -/
theorem takeCommand_sameFlowMoves {mine : BitVec 8 → Bool} {act : Args → State → Done} {s t : State}
    (hact : ∀ (a : Args) (s : State), s.SameFlow (act a s).state) (h : takeCommand mine act s = .next t) :
    FlowMoves s t :=
  takeCommand_flowMoves (fun a => FlowMoves.same (hact a s)) h

/-- Every event makes a sequence of moves of the transactions in flight. -/
theorem exec_flowMoves {c : Instr} {s t : State} (h : exec c s = .next t) : FlowMoves s t := by
  cases c with
  | install => exact takeCommand_sameFlowMoves installAct_sameFlow h
  | replace => exact takeCommand_sameFlowMoves replaceAct_sameFlow h
  | retire => exact takeCommand_sameFlowMoves retireAct_sameFlow h
  | suspend => exact takeCommand_sameFlowMoves suspendAct_sameFlow h
  | resume => exact takeCommand_sameFlowMoves resumeAct_sameFlow h
  | setBudget => exact takeCommand_sameFlowMoves setBudgetAct_sameFlow h
  | readWindow => exact takeCommand_sameFlowMoves readWindowAct_sameFlow h
  | domainOpen => exact takeCommand_sameFlowMoves domainOpenAct_sameFlow h
  | domainSet => exact takeCommand_sameFlowMoves domainSetAct_sameFlow h
  | setFence => exact takeCommand_sameFlowMoves setFenceAct_sameFlow h
  | freeze => exact takeCommand_sameFlowMoves (domainChange_sameFlow freezeCheck _) h
  | thaw => exact takeCommand_sameFlowMoves (domainChange_sameFlow thawCheck _) h
  | halt => exact takeCommand_sameFlowMoves (domainChange_sameFlow haltCheck _) h
  | release => exact takeCommand_sameFlowMoves (domainChange_sameFlow releaseCheck _) h
  | purge => exact takeCommand_sameFlowMoves purgeAct_sameFlow h
  | readDomain => exact takeCommand_sameFlowMoves readDomainAct_sameFlow h
  | readChain => exact takeCommand_sameFlowMoves readChainAct_sameFlow h
  | bind => exact takeCommand_sameFlowMoves bindAct_sameFlow h
  | unbind => exact takeCommand_sameFlowMoves unbindAct_sameFlow h
  | streamSet => exact takeCommand_sameFlowMoves streamSetAct_sameFlow h
  | setTimeout => exact takeCommand_sameFlowMoves setTimeoutAct_sameFlow h
  | probe => exact takeCommand_sameFlowMoves probeAct_sameFlow h
  | badCommand => exact takeCommand_sameFlowMoves (fun _ s => .refl s) h
  | targetSet => exact takeCommand_flowMoves (fun a => targetSetAct_flowMoves a s) h
  | linkSet => exact takeCommand_flowMoves (fun a => linkSetAct_flowMoves a s) h
  | openWindow => exact takeControl_flowMoves (fun q => openAct_sameFlow q s) h
  | closeWindow => exact takeControl_flowMoves (fun q => closeAct_sameFlow q s) h
  | narrow => exact takeControl_flowMoves (fun q => narrowAct_sameFlow q s) h
  | status => exact takeControl_flowMoves (fun q => statusAct_sameFlow q s) h
  | ctl => exact execCtl_flowMoves h
  | wr | rd | rds =>
    cases h
    exact s.dataArrives_flowMoves ..
  | noticeAck => exact execNoticeAck_flowMoves h
  | hello => exact execHello_flowMoves h
  | linkReset => exact execLinkReset_flowMoves h
  | unknownKind => exact execUnknownKind_flowMoves h
  | signalDetection => exact execSignalDetection_flowMoves h
  | signalLoss => exact execSignalLoss_flowMoves h
  | helloTimerExpiry => exact execHelloTimerExpiry_flowMoves h
  | handshakeTimerExpiry => exact execHandshakeTimerExpiry_flowMoves h
  | examination => exact execExamination_flowMoves h
  | grant => exact execGrant_flowMoves h
  | completion => exact execCompletion_flowMoves h
  | deadlineExpiry => exact execDeadlineExpiry_flowMoves h
  | notice => exact execNotice_flowMoves h
  | sendDataReply => exact execSendDataReply_flowMoves h
  | sendCtlReply => exact execSendCtlReply_flowMoves h
  | powerOnReset =>
    cases h
    exact .single s.powerOn_flowMove
  | deviceReset =>
    cases h
    exact .single s.deviceReset_flowMove
  | cmdIssue value =>
    cases h
    exact FlowMoves.same (s.writeCmdIssue_sameFlow value)
  | unboundSetRemove l value =>
    cases h
    exact FlowMoves.same (s.removeUnbound_sameFlow l value)
  | registerWrite =>
    cases h
    exact s.writeRegister_flowMoves ..
  | eventClear | eventEnableWrite | summaryEnableWrite =>
    cases h
    exact FlowMoves.same (.of_tables rfl rfl rfl rfl rfl)

/-- Every step makes a sequence of moves of the transactions in flight. -/
theorem step_flowMoves {s t : State} (h : step s = .next t) : FlowMoves s t := by
  unfold step at h
  split at h
  · next c rest _ =>
    have hpop : FlowMoves s { s with pending := rest } := FlowMoves.same (.of_tables rfl rfl rfl rfl rfl)
    exact hpop.trans (exec_flowMoves h)
  · unfold idleStep at h
    split at h
    · exact exec_flowMoves h
    · cases h
      exact FlowMoves.same (.of_tables rfl rfl rfl rfl rfl)

/-- A law that every move of the transactions in flight keeps is kept by every step. -/
theorem keptByStep_of_flowMoves {law : State → Prop} (hmove : ∀ s t, FlowMove s t → law s → law t) :
    keptByStep (fun _ => True) law := by
  intro s t _ hs hstep
  have hmoves := step_flowMoves hstep
  clear hstep
  induction hmoves with
  | refl => exact hs
  | tail _ hlast ih => exact hmove _ _ hlast ih

/-- Settles O57: each move of the transactions in flight keeps the three laws of the tracker. -/
theorem trackerLawsKeptByStep : Obligations.TrackerLawsKeptByStep :=
  ⟨keptByStep_of_flowMoves fun _ _ => FlowMove.keeps_tagsHeldByIssued,
    keptByStep_of_flowMoves fun _ _ => FlowMove.keeps_waitingListsSound,
    keptByStep_of_flowMoves fun _ _ => FlowMove.keeps_waitersTargetOnline⟩

/-- Settles O58: each move of the transactions in flight keeps quiet links, and the timers and signals. -/
theorem quietLinkLawsKeptByStep : Obligations.QuietLinkLawsKeptByStep :=
  ⟨keptByStep_of_flowMoves fun _ _ => FlowMove.keeps_linksQuiet,
    keptByStep_of_flowMoves fun _ _ => FlowMove.keeps_timersAndSignals⟩

end Sys2Proof.Machine
end

section
/-! CERTIFICATES. The fabric side of the tracker: GRANT (R93, R94), COMPLETION (R96, R97) and DEADLINE_EXPIRY (R99). -/

namespace Sys2Proof.Machine

open Sys2Proof.Spec

/-! ## GRANT -/

/-- The lowest-numbered free tag (R93). -/
theorem State.freeTag_eq_some {s : State} {g : TagNo} (hfree : s.tag g = .free) (hlow : ∀ h, h < g → s.tag h ≠ .free) :
    s.freeTag = some g := by
  unfold State.freeTag
  rw [List.find?_eq_some_iff_getElem]
  refine ⟨decide_eq_true hfree, g.val, by simp, by simp, fun j hj => ?_⟩
  have hne := hlow ⟨j, by omega⟩ (by simpa [Fin.lt_def] using hj)
  simpa using hne

/-- The search order goes through all links, from the one after the last granted (R93). -/
theorem searchOrder_eq (last : LinkId) : searchOrder last = (List.finRange 4).map (last + 1 + ·) := by
  revert last
  decide

/-- The first link in search order that has an entry waiting (R93). -/
theorem State.nextLink_eq_some {s : State} (n : Fin 4) (hwaits : s.waitList (s.fabric.lastGranted + 1 + n) ≠ [])
    (hempty : ∀ m, m < n → s.waitList (s.fabric.lastGranted + 1 + m) = []) :
    s.nextLink = some (s.fabric.lastGranted + 1 + n) := by
  unfold State.nextLink
  rw [searchOrder_eq, List.find?_eq_some_iff_getElem]
  refine ⟨by simpa using hwaits, n.val, by simp, by simp, fun j hj => ?_⟩
  have hnil := hempty ⟨j, by omega⟩ (by simpa [Fin.lt_def] using hj)
  simpa using hnil

/-- Settles O34: the searches find the tag and the link, and the granting of the tag is the whole next state. -/
theorem grantServesNextLinkWithLowestTag : Obligations.GrantServesNextLinkWithLowestTag := by
  intro s g l e rest r n hfree hlow hl hempty hlist hentry
  have htag : s.freeTag = some g := State.freeTag_eq_some hfree hlow
  have hwait : s.waitList l = e :: rest := hlist
  have hlink : s.nextLink = some l := by
    rw [hl]
    exact State.nextLink_eq_some n (by rw [← hl, hwait]; simp) hempty
  have hreq : s.entry l e = .waitTag r := hentry
  have hexec : exec .grant s = .next (s.grantTag l e r g) := by
    simp only [exec, execGrant, htag, hlink, hwait, List.head?_cons, hreq]
  rw [hexec, State.grantTag, hwait]
  rfl

/-! ## COMPLETION -/

/-- A completion whose number names a tag acts by that tag's condition (R96). -/
theorem exec_completion (g : TagNo) (st : CompletionStatus) (data : List Byte) (s : State) :
    exec (.completion g.val st data) s = .next (match s.tag g with
      | .free => s.raiseDev .strayCompletion
      | .quarantined _ => (s.setTag g .free).raiseDev .lateCompletion
      | .held l e => s.endWithReply .freed (completionAnswer st data) l e) := by
  simp only [exec, execCompletion, dif_pos g.isLt]
  cases s.tag g <;> rfl

/-- An ISSUED entry that ends with its reply: FREE, its tag where the fate says, its reference dropped, the reply handed
(R91, R97, R99). -/
theorem State.endWithReply_issued {fate : TagFate} {answer : EntryReq → DataAnswer} {l : LinkId} {e : EntryNo}
    {s : State} {r : EntryReq} {g : TagNo} {dl : Nat} (h : s.entry l e = .issued r g dl) :
    s.endWithReply fate answer l e = handed l ⟨r.tag, r.stream, answer r⟩
      (State.dropRef r.window
        { s with
          entries := s.entries.set l ((s.entries[l]).set e .free)
          fabric := { s.fabric with tags := s.fabric.tags.set g (fate.cond r.target) } }) := by
  rw [State.endWithReply_request (r := r) (by rw [h]; rfl), State.endEntry_issued h]
  rfl

/-- The reply of a completion in the words of R97 and R113. -/
theorem completionAnswer_eq (st : CompletionStatus) (data : List Byte) (r : EntryReq) : completionAnswer st data r =
    if st = .error then .refused .targetError
    else if r.kind = .wr then .done
    else if data.length = r.length then .data data
    else .refused .targetError := by
  unfold completionAnswer
  cases st <;> cases r.kind <;> simp

/-- Settles O35: the tag's condition selects the case, and no other state of the part does. -/
theorem completionMatchedByTag : Obligations.CompletionMatchedByTag := by
  intro s n st data
  refine ⟨fun hn => ?_, fun g hg => ?_⟩
  · simp only [exec, execCompletion, dif_neg (show ¬n < 24 by omega)]
    rfl
  · subst hg
    have hexec := exec_completion g st data s
    refine ⟨fun hfree => ?_, fun x hquar => ?_, fun l e r dl hheld hentry => ?_⟩
    · rw [hexec, State.tag_eq, hfree]
      rfl
    · rw [hexec, State.tag_eq, hquar]
      rfl
    · rw [hexec, State.tag_eq, hheld]
      simp only [State.endWithReply_issued (s := s) hentry, completionAnswer_eq]
      rfl

/-! ## DEADLINE_EXPIRY -/

/-- Settles O36: the clock reaches the deadline, and the entry ends with its tag in the quarantine. -/
theorem deadlineExpiryQuarantinesTag : Obligations.DeadlineExpiryQuarantinesTag := by
  intro s l e r g dl hentry t
  have hreq : s.entry l e = .issued r g dl := hentry
  have hexec : exec (.deadlineExpiry l e) s = .next
      (((s.reach dl).endWithReply .quarantined (fun _ => .refused .timeout) l e).raiseDev .quarantine) := by
    simp only [exec, execDeadlineExpiry, hreq]
  rw [hexec, State.endWithReply_issued (s := s.reach dl) hentry]
  rfl

end Sys2Proof.Machine
end

section
/-! CERTIFICATES. The step on an empty queue (log 3, log 4): the part's own events in the words of the rules that start
them (R88, R93, R119, R123, R124, R144, R153, R161, R166, R170). -/

namespace Sys2Proof.Machine

open Sys2Proof.Spec

/-- The row of a command is one of the rows of R192 with its code, and BAD_COMMAND for the other codes. -/
theorem commandRow_cases (code : BitVec 8) : (∃ rk ∈ commandRows, commandRow code = rk.1 ∧ code.toNat = rk.2) ∨
    (commandRow code = .badCommand ∧ (code.toNat = 0 ∨ 0x18 < code.toNat)) := by
  unfold commandRow
  split
  case h_25 =>
    refine .inr ⟨rfl, ?_⟩
    simp only [imp_false] at *
    omega
  all_goals
    next hcode => exact .inl ⟨(_, _), by simp [commandRows], rfl, hcode⟩

theorem controlRow_mem (op : CtlOp) : (controlRow op, op) ∈ controlOps := by
  cases op <;> simp [controlOps, controlRow]

/-- What the engine takes by itself is enabled (R123, R124). -/
theorem enabled_of_work {s : State} {c : Instr} (h : s.engine.work = some c) : enabled c s := by
  obtain ⟨x, hslot, hserves, rfl⟩ | ⟨q, rest, hqueue, hserves, rfl⟩ := Engine.work_cases h
  · obtain ⟨-, hturn⟩ := (Engine.servesMgmt_iff _).1 hserves
    obtain ⟨rk, hmem, hrow, hcode⟩ | ⟨hrow, hcode⟩ := commandRow_cases x.code
    · exact .inl ⟨rk, hmem, hrow, x, hslot, hcode, hturn⟩
    · exact .inr (.inl ⟨hrow, x, _, ⟨hslot, rfl, hturn⟩, hcode⟩)
  · obtain ⟨-, hturn⟩ := (Engine.servesInband_iff _).1 hserves
    exact .inr (.inr (.inl ⟨_, controlRow_mem q.op, rfl, q, rest, hqueue, rfl, hturn⟩))

/-- What a link sends by itself is enabled (R144, R153, R166). -/
theorem enabled_of_linkSending {s : State} {l : LinkId} {c : Instr} (h : s.linkSending l = some c) : enabled c s := by
  iterate 5 apply Or.inr
  obtain ⟨hready, rfl⟩ | ⟨hup, r, hr, rfl⟩ | ⟨hup, r, hr, rfl⟩ := State.linkSending_cases h
  · exact .inl ⟨l, rfl, (LinkPort.noticeReady_iff _).1 hready⟩
  · exact .inr (.inl ⟨l, hup, r, hr, rfl⟩)
  · exact .inr (.inr (.inl ⟨l, hup, r, hr, rfl⟩))

/-- A timer that is due is enabled (R161, R170). -/
theorem enabled_of_linkTimerDue {s : State} {l : LinkId} {c : Instr} (h : s.linkTimerDue l = some c) : enabled c s := by
  iterate 8 apply Or.inr
  obtain hhello | hshake := (s.linkTimerDue_eq_some_iff l c).1 h
  · exact .inl ⟨l, hhello⟩
  · exact .inr (.inl ⟨l, hshake⟩)

/-- A deadline that has passed is enabled (R119). -/
theorem enabled_of_deadlineDue {s : State} {le : LinkId × EntryNo} {c : Instr} (h : s.deadlineDue le = some c) :
    enabled c s := by
  iterate 10 apply Or.inr
  exact ⟨le.1, le.2, (s.deadlineDue_eq_some_iff le c).1 h⟩

/-- The conditions of the own event that a step takes hold. -/
theorem enabled_of_ownEvent {s : State} {c : Instr} (h : s.ownEvent = some c) : enabled c s := by
  obtain hwork | ⟨l, rfl, hexamine⟩ | ⟨rfl, hgrant⟩ | ⟨l, hsend⟩ | ⟨l, htimer⟩ | ⟨le, hdue⟩ := State.ownEvent_cases h
  · exact enabled_of_work hwork
  · exact .inr (.inr (.inr (.inl ⟨l, rfl, (s.canExamine_iff l).1 hexamine⟩)))
  · exact .inr (.inr (.inr (.inr (.inl ⟨rfl, s.canGrant_iff.1 hgrant⟩))))
  · exact enabled_of_linkSending hsend
  · exact enabled_of_linkTimerDue htimer
  · exact enabled_of_deadlineDue hdue

/-- Where an own event has its conditions met, the searches find one. -/
theorem ownEvent_ne_none_of_enabled {s : State} {c : Instr} (h : enabled c s) : s.ownEvent ≠ none := by
  rw [ne_eq, State.ownEvent_eq_none_iff]
  rintro ⟨hwork, hexamine, hgrant, hsend, htimer, hdue⟩
  obtain ⟨hslot, hinband⟩ := (Engine.work_eq_none_iff _).1 hwork
  have hsilent := fun l => (s.linkSending_eq_none_iff l).1 (hsend l)
  rcases h with ⟨rk, -, -, x, hx, -⟩ | ⟨-, x, k, ⟨hx, -⟩, -⟩ | ⟨ro, -, -, q, rest, hq, -⟩ | ⟨l, -, hcan⟩ | ⟨-, hcan⟩ |
    ⟨l, -, hready⟩ | ⟨l, hup, r, hr, -⟩ | ⟨l, hup, r, hr, -⟩ | ⟨l, hc⟩ | ⟨l, hc⟩ | ⟨l, e, hc⟩
  · simp [hslot] at hx
  · simp [hslot] at hx
  · simp [hinband] at hq
  · simpa [hexamine l] using (s.canExamine_iff l).2 hcan
  · simpa [hgrant] using s.canGrant_iff.2 hcan
  · simpa [(hsilent l).1] using (LinkPort.noticeReady_iff (s.port l)).2 hready
  · obtain ⟨hdata, -⟩ := (hsilent l).2 hup
    have hmem : r ∈ (s.port l).outData := hr
    simp [hdata] at hmem
  · obtain ⟨-, hctl⟩ := (hsilent l).2 hup
    have hmem : r ∈ (s.port l).outCtl := hr
    simp [hctl] at hmem
  · simpa [htimer l] using (s.linkTimerDue_eq_some_iff l c).2 (.inl hc)
  · simpa [htimer l] using (s.linkTimerDue_eq_some_iff l c).2 (.inr hc)
  · simpa [hdue (l, e)] using (s.deadlineDue_eq_some_iff (l, e) c).2 hc

/-- Settles O2: an own event found is enabled, and one is found wherever one is enabled. -/
theorem emptyQueueStepsOwnWork : Obligations.EmptyQueueStepsOwnWork := by
  intro s hempty
  have hstep : step s = idleStep s := by simp only [step, hempty]
  refine ⟨fun c hc => ⟨enabled_of_ownEvent hc, by simp only [hstep, idleStep, hc]⟩,
    ⟨fun hnone c hc => ?_, fun hno => ?_⟩, fun hnone => ?_⟩
  · exact ownEvent_ne_none_of_enabled hc hnone
  · cases hown : s.ownEvent with
    | none => rfl
    | some c => exact absurd (enabled_of_ownEvent hown) (hno c)
  · simp only [hstep, idleStep, hnone]
    rfl

end Sys2Proof.Machine
end

section
/-! CERTIFICATES. Bus reads (R175, R176, R194): the register at each offset, and the word each register reads, field by
field. -/

namespace Sys2Proof.Machine

open Sys2Proof.Spec

/-! ## The register at an offset (R194) -/

theorem registerAt_unaligned {off : BitVec 12} (h : off.toNat % 4 ≠ 0) : registerAt off = .unassigned := if_pos h

/-- The offsets between the groups of registers, and those beyond the last (R194). -/
def gapOffset (o : Nat) : Prop :=
  (0x008 ≤ o ∧ o < 0x010) ∨ (0x018 ≤ o ∧ o < 0x040) ∨ (0x070 ≤ o ∧ o < 0x080) ∨ (0x0B0 ≤ o ∧ o < 0x100) ∨
    (0x118 ≤ o ∧ o < 0x120) ∨ (0x124 ≤ o ∧ o < 0x140) ∨ (0x150 ≤ o ∧ o < 0x200) ∨ (0x208 ≤ o ∧ o < 0x210) ∨
    (0x230 ≤ o ∧ o < 0x240) ∨ 0x2C8 ≤ o

/-- None of the offsets that name a register lies in a gap. -/
theorem registerAt_gap {off : BitVec 12} (h : gapOffset off.toNat) : registerAt off = .unassigned := by
  by_cases haligned : off.toNat % 4 ≠ 0
  · exact registerAt_unaligned haligned
  · refine (if_neg haligned).trans ?_
    unfold gapOffset at h
    generalize off.toNat = o at h ⊢
    iterate 19 refine (if_neg (by omega)).trans ?_
    rfl

theorem registerAt_cmdArg (i : Fin 12) : registerAt (BitVec.ofNat 12 (0x040 + 4 * i.val)) = .cmdArg i := by
  revert i
  decide

theorem registerAt_cmdResult (i : Fin 12) : registerAt (BitVec.ofNat 12 (0x080 + 4 * i.val)) = .cmdResult i := by
  revert i
  decide

theorem registerAt_linkState (l : LinkId) : registerAt (BitVec.ofNat 12 (0x100 + 4 * l.val)) = .linkState l := by
  revert l
  decide

theorem registerAt_unboundSet (l : LinkId) : registerAt (BitVec.ofNat 12 (0x140 + 4 * l.val)) = .unboundSet l := by
  revert l
  decide

theorem registerAt_linkLatch (l : LinkId) :
    registerAt (BitVec.ofNat 12 (0x210 + 4 * l.val)) = .eventLatch (.link l) := by
  revert l
  decide

theorem registerAt_linkEnable (l : LinkId) :
    registerAt (BitVec.ofNat 12 (0x220 + 4 * l.val)) = .eventEnable (.link l) := by
  revert l
  decide

theorem registerAt_domLatch (d : DomId) :
    registerAt (BitVec.ofNat 12 (0x240 + 4 * d.val)) = .eventLatch (.domain d) := by
  revert d
  decide

theorem registerAt_domEnable (d : DomId) :
    registerAt (BitVec.ofNat 12 (0x280 + 4 * d.val)) = .eventEnable (.domain d) := by
  revert d
  decide

/-- A read of a whole word shows the register at its offset (R175). -/
theorem State.busRead_word {off : BitVec 12} {r : Register} (h : registerAt off = r) (s : State) :
    s.busRead off .word = s.readRegister r := congrArg s.readRegister h

/-! ## The words, field by field -/

theorem setWidth_eq_zero_append (m : Nat) {n : Nat} (x : BitVec n) : x.setWidth (m + n) = 0#m ++ x := by
  refine BitVec.eq_of_getLsbD_eq fun k hk => ?_
  rw [BitVec.getLsbD_setWidth, BitVec.getLsbD_append]
  by_cases hkn : k < n
  · simp [hkn, hk]
  · simp [hkn, BitVec.getLsbD_of_ge x k (by omega)]

theorem cmdStatusWord_eq (m : MgmtPort) : fieldWord 0 2 m.status.num ||| fieldWord 8 8 m.seq.toNat =
    0#16 ++ m.seq ++ 0#6 ++ BitVec.ofNat 2 m.status.num := by
  refine BitVec.eq_of_getLsbD_eq fun k hk => ?_
  simp only [BitVec.getLsbD_or, getLsbD_fieldWord_ofNat, BitVec.ofNat_toNat, BitVec.setWidth_eq, BitVec.getLsbD_append]
  interval_cases k <;> simp

theorem State.busyCount_eq (s : State) (l : LinkId) :
    s.busyCount l = (List.finRange 8).countP fun e => decide ((s.entries[l])[e] ≠ .free) := by
  refine List.countP_congr fun e _ => ?_
  rw [State.entry_eq]
  cases (s.entries[l])[e] <;> simp [Entry.isFree]

theorem State.linkStateWord_eq (s : State) (l : LinkId) : s.linkStateWord l =
    0#4 ++ BitVec.ofNat 4 (ErrorCause.num (s.port l).errorCause) ++ 0#4
      ++ BitVec.ofNat 2 (s.port l).noticeCredit.num ++ BitVec.ofNat 2 (s.port l).ctlCredits
      ++ BitVec.ofNat 4 (s.busyCount l) ++ BitVec.ofNat 4 (s.port l).ingress.length
      ++ BitVec.ofNat 4 (s.port l).dataCredits ++ BitVec.ofBool (s.port l).signal
      ++ BitVec.ofNat 3 (s.port l).state.num := by
  refine BitVec.eq_of_getLsbD_eq fun k hk => ?_
  simp only [State.linkStateWord, BitVec.getLsbD_or, getLsbD_fieldWord_ofNat, ofNat_boolToNat, BitVec.getLsbD_append]
  interval_cases k <;> simp

/-- Bit `k` of a set's mask: the stream of that number, and nothing at 0 and above 15 (R194). -/
theorem StreamSet.testBit_mask (m : StreamSet) (k : Nat) : m.mask.testBit k = (false :: m.toList).getD k false :=
  testBit_maskOf _ k

theorem StreamSet.getLsbD_mask_stream (m : StreamSet) (st : DataStream) :
    (BitVec.ofNat 32 m.mask).getLsbD (st.val + 1) = m[st] := by
  have hst := st.isLt
  rw [BitVec.getLsbD_ofNat, StreamSet.testBit_mask]
  simp [show st.val + 1 < 32 by omega]

theorem StreamSet.getLsbD_mask_outside (m : StreamSet) {k : Nat} (h : k = 0 ∨ 16 ≤ k) :
    (BitVec.ofNat 32 m.mask).getLsbD k = false := by
  rw [BitVec.getLsbD_ofNat, StreamSet.testBit_mask, List.getD_eq_getElem?_getD]
  rcases h with rfl | h
  · simp
  · rw [List.getElem?_eq_none (by simpa using h)]
    simp

theorem TargetState.num_testBit (x : TargetState) : (BitVec.ofNat 1 x.num).getLsbD 0 = decide (x = .online) := by
  cases x <;> rfl

/-- The bit and the count of one target in the first word of TARGET_STATE (R120). -/
theorem State.targetStateWord0_target (s : State) (x : TargetId) :
    s.targetStateWord0.getLsbD x.val = decide (s.target x = .online) ∧
      s.targetStateWord0.extractLsb' (4 + 5 * x.val) 5 = BitVec.ofNat 5 (s.issuedCount x) := by
  constructor
  · rw [← TargetState.num_testBit]
    simp only [State.targetStateWord0, BitVec.getLsbD_or, getLsbD_fieldWord_ofNat]
    fin_cases x <;> simp
  · refine BitVec.eq_of_getLsbD_eq fun k hk => ?_
    simp only [State.targetStateWord0, BitVec.getLsbD_extractLsb', BitVec.getLsbD_or, getLsbD_fieldWord_ofNat]
    fin_cases x <;> interval_cases k <;> simp

theorem State.targetStateWord1_target (s : State) (x : TargetId) :
    s.targetStateWord1.extractLsb' (5 * x.val) 5 = BitVec.ofNat 5 (s.quarantinedCount x) := by
  refine BitVec.eq_of_getLsbD_eq fun k hk => ?_
  simp only [State.targetStateWord1, BitVec.getLsbD_extractLsb', BitVec.getLsbD_or, getLsbD_fieldWord_ofNat]
  fin_cases x <;> interval_cases k <;> simp

theorem State.targetStateWord0_rest (s : State) : s.targetStateWord0.extractLsb' 24 8 = 0 := by
  refine BitVec.eq_of_getLsbD_eq fun k hk => ?_
  simp only [State.targetStateWord0, BitVec.getLsbD_extractLsb', BitVec.getLsbD_or, getLsbD_fieldWord_ofNat]
  interval_cases k <;> simp

theorem State.targetStateWord1_rest (s : State) : s.targetStateWord1.extractLsb' 20 12 = 0 := by
  refine BitVec.eq_of_getLsbD_eq fun k hk => ?_
  simp only [State.targetStateWord1, BitVec.getLsbD_extractLsb', BitVec.getLsbD_or, getLsbD_fieldWord_ofNat]
  interval_cases k <;> simp

theorem State.issuedCount_eq (s : State) (x : TargetId) :
    s.issuedCount x = (entriesWith s fun _ _ y => issuedTo x y).length := by
  rw [State.issuedCount, List.countP_eq_length_filter, ← State.entriesTo_issued]
  rfl

theorem State.tagStatusWord_eq (s : State) : s.tagStatusWord =
    0#11 ++ BitVec.ofNat 5 s.quarantinedTags ++ 0#3 ++ BitVec.ofNat 5 s.grantedTags ++ 0#3
      ++ BitVec.ofNat 5 s.freeTags := by
  refine BitVec.eq_of_getLsbD_eq fun k hk => ?_
  simp only [State.tagStatusWord, BitVec.getLsbD_or, getLsbD_fieldWord_ofNat, BitVec.getLsbD_append]
  interval_cases k <;> simp

/-- Three properties of which each element has exactly one count the list. -/
theorem countP_add_countP_add_countP {α : Type} {p q r : α → Bool}
    (h : ∀ x, (p x).toNat + (q x).toNat + (r x).toNat = 1) (xs : List α) :
    xs.countP p + xs.countP q + xs.countP r = xs.length := by
  induction xs with
  | nil => rfl
  | cons x rest ih =>
    have hx := h x
    simp only [List.countP_cons, List.length_cons, Bool.toNat, Bool.cond_eq_ite] at hx ⊢
    omega

/-- Every tag is free, held or quarantined, and only one of them (R92). -/
theorem State.tagCounts_sum (s : State) : s.freeTags + s.grantedTags + s.quarantinedTags = 24 := by
  unfold State.freeTags State.grantedTags State.quarantinedTags
  simp only [← Vector.countP_toList]
  rw [countP_add_countP_add_countP, Vector.length_toList]
  intro c
  cases c <;> rfl

/-- Settles O10, register by register. -/
theorem registerReadsShowState : Obligations.RegisterReadsShowState := by
  intro s
  have hread : ∀ {off r}, registerAt off = r → s.busRead off .word = s.readRegister r := fun h => State.busRead_word h s
  refine ⟨fun off => ⟨rfl, rfl, fun h => hread (registerAt_unaligned h), fun h => hread (registerAt_gap h)⟩,
    hread (r := .identification) (by decide), hread (r := .deviceControl) (by decide),
    hread (r := .cmdIssue) (by decide), (hread (r := .cmdStatus) (by decide)).trans (cmdStatusWord_eq _),
    fun i => ⟨hread (registerAt_cmdArg i), hread (registerAt_cmdResult i)⟩,
    fun l => ⟨?_, fun st => ?_, fun k hk => ?_, ?_, ?_⟩,
    fun x => ⟨?_, ?_, ?_⟩, ?_, ?_, ?_, s.tagCounts_sum, ?_, ?_, fun d => ⟨?_, ?_⟩, ?_, ?_⟩
  · rw [hread (registerAt_linkState l), ← State.busyCount_eq]
    exact s.linkStateWord_eq l
  · rw [hread (registerAt_unboundSet l)]
    exact StreamSet.getLsbD_mask_stream _ st
  · rw [hread (registerAt_unboundSet l)]
    exact StreamSet.getLsbD_mask_outside _ hk
  · exact (hread (registerAt_linkLatch l)).trans (setWidth_eq_zero_append 28 _)
  · exact (hread (registerAt_linkEnable l)).trans (setWidth_eq_zero_append 28 _)
  · rw [hread (r := .targetState0) (by decide)]
    exact (s.targetStateWord0_target x).1
  · rw [hread (r := .targetState0) (by decide), ← State.issuedCount_eq]
    exact (s.targetStateWord0_target x).2
  · rw [hread (r := .targetState1) (by decide)]
    exact s.targetStateWord1_target x
  · rw [hread (r := .targetState0) (by decide)]
    exact s.targetStateWord0_rest
  · rw [hread (r := .targetState1) (by decide)]
    exact s.targetStateWord1_rest
  · exact (hread (r := .tagStatus) (by decide)).trans s.tagStatusWord_eq
  · exact (hread (r := .eventLatch .device) (by decide)).trans (setWidth_eq_zero_append 26 _)
  · exact (hread (r := .eventEnable .device) (by decide)).trans (setWidth_eq_zero_append 26 _)
  · exact (hread (registerAt_domLatch d)).trans (setWidth_eq_zero_append 27 _)
  · exact (hread (registerAt_domEnable d)).trans (setWidth_eq_zero_append 27 _)
  · exact (hread (r := .summary) (by decide)).trans (setWidth_eq_zero_append 12 _)
  · exact (hread (r := .summaryEnable) (by decide)).trans (setWidth_eq_zero_append 12 _)

end Sys2Proof.Machine
end

section
/-! SUPPORT. What one event can do to CMD_STATUS, the management slot and the completion timeout setting: the moves of
the command record, and the shared operations that leave it as it is. -/

namespace Sys2Proof.Machine

/-! ## The command record and its moves -/

/-- What CMD_STATUS shows, the command in the management slot, and the timeout setting (R118, R132). -/
structure CommandRecord where
  status : CmdState
  seq : BitVec 8
  slot : Option Command
  timeout : Nat

def State.commandRecord (s : State) : CommandRecord where
  status := s.mgmt.status
  seq := s.mgmt.seq
  slot := s.engine.slot
  timeout := s.fabric.timeout

/-- A timeout setting that SET_TIMEOUT accepts (R118). -/
abbrev timeoutFits (v : Nat) : Prop := Config.timeoutMin ≤ v ∧ v ≤ Config.timeoutMax

def CommandRecord.Sound (r : CommandRecord) : Prop :=
  (r.status = .busy ↔ r.slot.isSome = true) ∧ (∀ c, r.slot = some c → r.seq = c.seq) ∧ timeoutFits r.timeout

/-- The law reads the command record alone. -/
theorem statusMatchesSlot_iff (s : State) : statusMatchesSlot s ↔ s.commandRecord.Sound := Iff.rfl

/-- What one event can do to the command record. -/
inductive CommandMove (r : CommandRecord) : CommandRecord → Prop
  | stays : CommandMove r r
  /-- an issued command fills the empty slot (R129) -/
  | issues (c : Command) (hempty : r.slot = none) :
      CommandMove r { r with status := .busy, seq := c.seq, slot := some c }
  /-- the command in the slot is carried out (R131); only SET_TIMEOUT changes the setting (R118) -/
  | finishes {c : Command} {timeout : Nat} (hslot : r.slot = some c)
      (htimeout : timeout = r.timeout ∨ timeoutFits timeout) : CommandMove r ⟨.done, c.seq, none, timeout⟩
  /-- the part starts again (R121, R137) -/
  | restarts : CommandMove r ⟨.idle, 0, none, Config.timeoutReset⟩

/-- Every move leaves BUSY with a full slot of the shown sequence number, or neither. -/
theorem CommandMove.keeps_sound {r r' : CommandRecord} (h : CommandMove r r') (hr : r.Sound) : r'.Sound := by
  obtain ⟨-, -, hfits⟩ := id hr
  cases h with
  | stays => exact hr
  | issues c => exact ⟨by simp, fun _ hc => by rw [Option.some.inj hc], hfits⟩
  | finishes _ htimeout =>
    refine ⟨by simp, by simp, ?_⟩
    exact htimeout.elim (fun heq => heq ▸ hfits) id
  | restarts => exact ⟨by simp, by simp, by decide⟩

/-! ## Operations that leave the command record -/

theorem State.commandRecord_of_tables {s t : State} (hm : t.mgmt = s.mgmt) (he : t.engine = s.engine)
    (hf : t.fabric = s.fabric) : t.commandRecord = s.commandRecord := by
  simp only [State.commandRecord, hm, he, hf]

theorem commandRecord_ite {p : Prop} [Decidable p] {s t u : State} (ht : t.commandRecord = s.commandRecord)
    (hu : u.commandRecord = s.commandRecord) : (if p then t else u).commandRecord = s.commandRecord := by
  split
  · exact ht
  · exact hu

theorem State.commandRecord_foldl {α : Type} {f : State → α → State}
    (h : ∀ (s : State) (a : α), (f s a).commandRecord = s.commandRecord) (as : List α) (s : State) :
    (as.foldl f s).commandRecord = s.commandRecord := by
  induction as generalizing s with
  | nil => rfl
  | cons a rest ih => rw [List.foldl_cons, ih, h]

/-! ### Updates of one table -/

section
variable (s : State) (l : LinkId)

theorem State.commandRecord_modPort (f : LinkPort → LinkPort) : (s.modPort l f).commandRecord = s.commandRecord := rfl
theorem State.commandRecord_send (m : LinkMessage) : (s.send l m).commandRecord = s.commandRecord := rfl
theorem State.commandRecord_handData (r : DataReply) : (s.handData l r).commandRecord = s.commandRecord := rfl
theorem State.commandRecord_raiseLink (e : LinkEvent) : (s.raiseLink l e).commandRecord = s.commandRecord := rfl
theorem State.commandRecord_setWaiting (es : List EntryNo) : (s.setWaiting l es).commandRecord = s.commandRecord := rfl

end

/-! ### Tracker entries end -/

theorem State.commandRecord_dropRef (h : Handle) (s : State) :
    (s.dropRef h).commandRecord = s.commandRecord := State.commandRecord_of_tables (by simp) (by simp) (by simp)

theorem State.commandRecord_endEntry (fate : TagFate) (l : LinkId) (e : EntryNo) (s : State) :
    (s.endEntry fate l e).commandRecord = s.commandRecord := by
  cases hx : s.entry l e with
  | free => rw [State.endEntry_free hx]
  | waitTag r => rw [State.endEntry_waitTag hx, State.commandRecord_dropRef]; rfl
  | issued r g dl => rw [State.endEntry_issued hx, State.commandRecord_dropRef]; rfl

theorem State.commandRecord_endWithReply (fate : TagFate) (answer : EntryReq → DataAnswer) (l : LinkId)
    (e : EntryNo) (s : State) : (s.endWithReply fate answer l e).commandRecord = s.commandRecord := by
  unfold State.endWithReply
  split
  · rfl
  · rw [State.commandRecord_handData, State.commandRecord_endEntry]

theorem State.commandRecord_endLinkEntries (l : LinkId) (s : State) :
    (s.endLinkEntries l).commandRecord = s.commandRecord := by
  rw [State.endLinkEntries, State.commandRecord_setWaiting]
  exact State.commandRecord_foldl (fun _ _ => State.commandRecord_endEntry ..) _ s

theorem State.commandRecord_endAll (les : List (LinkId × EntryNo)) (s : State) :
    (s.endAll les).commandRecord = s.commandRecord :=
  State.commandRecord_foldl (fun _ _ => State.commandRecord_endWithReply ..) les s

/-! ### Links -/

theorem State.commandRecord_leaveUp (l : LinkId) (s : State) :
    (s.leaveUp l).commandRecord = s.commandRecord := by
  have hended := State.commandRecord_endLinkEntries l s
  unfold State.leaveUp
  generalize s.endLinkEntries l = t at hended ⊢
  exact commandRecord_ite hended hended

theorem State.commandRecord_enterDown (l : LinkId) (s : State) :
    (s.enterDown l).commandRecord = s.commandRecord :=
  State.commandRecord_of_tables (by simp) (by simp) (by simp)

theorem State.commandRecord_partReset (l : LinkId) (s : State) :
    (s.partReset l).commandRecord = s.commandRecord := by
  rw [State.partReset, State.commandRecord_modPort, State.commandRecord_send, State.commandRecord_leaveUp]

theorem State.commandRecord_protocolError (l : LinkId) (c : ErrorCause) (s : State) :
    (s.protocolError l c).commandRecord = s.commandRecord := by
  rw [State.protocolError, State.commandRecord_partReset, State.commandRecord_raiseLink, State.commandRecord_modPort]

end Sys2Proof.Machine
end

section
/-! SUPPORT. The commands and control requests leave the command record, SET_TIMEOUT's setting excepted; their taking
empties the slot, or leaves it. -/

namespace Sys2Proof.Machine

/-! ## The takings at the engine -/

/-- The taking of a command whose effect keeps the timeout setting in its range (R131). -/
theorem takeCommand_commandMove_of_timeout {mine : BitVec 8 → Bool} {act : Args → State → Done} {s t : State}
    (hact : ∀ a, (act a s).state.fabric.timeout = s.fabric.timeout ∨ timeoutFits (act a s).state.fabric.timeout)
    (h : takeCommand mine act s = .next t) : CommandMove s.commandRecord t.commandRecord := by
  obtain rfl | ⟨c, hslot, -, -, rfl⟩ := takeCommand_cases h
  · exact .stays
  · exact .finishes hslot (hact c.args)

/-- The taking of a command whose effect leaves the command record (R131). -/
theorem takeCommand_commandMove {mine : BitVec 8 → Bool} {act : Args → State → Done} {s t : State}
    (hact : ∀ (a : Args) (s : State), (act a s).state.commandRecord = s.commandRecord)
    (h : takeCommand mine act s = .next t) : CommandMove s.commandRecord t.commandRecord :=
  takeCommand_commandMove_of_timeout (fun a => .inl (congrArg CommandRecord.timeout (hact a s))) h

/-- The taking of a control request leaves the command record as the request's effect does (R127). -/
theorem takeControl_commandRecord {op : CtlOp} {act : CtlRequest → State → CtlDone} {s t : State}
    (hact : ∀ (q : CtlRequest) (s : State), (act q s).state.commandRecord = s.commandRecord)
    (h : takeControl op act s = .next t) : t.commandRecord = s.commandRecord := by
  obtain rfl | ⟨q, rest, -, -, -, rfl⟩ := takeControl_cases h
  · rfl
  · exact hact q s

theorem checked_commandRecord {check : Option ResultCode} {effect : Unit → Done} {s : State}
    (h : (effect ()).state.commandRecord = s.commandRecord) :
    (Done.checked check effect s).state.commandRecord = s.commandRecord := by
  cases check with
  | none => exact h
  | some c => rfl

/-! ## The shared operations on windows and notices -/

theorem State.commandRecord_removeWindow (d : DomId) (i : SlotId) (s : State) :
    (s.removeWindow d i).commandRecord = s.commandRecord :=
  State.commandRecord_of_tables (by simp) (by simp) (by simp)

theorem State.commandRecord_noticeIfSelf (w : Window) (s : State) :
    (s.noticeIfSelf w).commandRecord = s.commandRecord := commandRecord_ite rfl rfl

theorem State.commandRecord_removeAll (d : DomId) (s : State) : (s.removeAll d).commandRecord = s.commandRecord :=
  State.commandRecord_foldl (fun _ _ => State.commandRecord_removeWindow ..) _ s

/-! ## Commands on windows -/

theorem installAct_commandRecord (a : Args) (s : State) : (installAct a s).state.commandRecord = s.commandRecord := by
  refine checked_commandRecord ?_
  unfold installEffect
  dsimp only
  split <;> rfl

theorem replaceAct_commandRecord (a : Args) (s : State) : (replaceAct a s).state.commandRecord = s.commandRecord := by
  refine checked_commandRecord ?_
  unfold replaceEffect
  dsimp only
  split
  · rfl
  · exact State.commandRecord_removeWindow ..

theorem retireAct_commandRecord (a : Args) (s : State) : (retireAct a s).state.commandRecord = s.commandRecord :=
  checked_commandRecord ((State.commandRecord_noticeIfSelf ..).trans (State.commandRecord_removeWindow ..))

theorem suspendAct_commandRecord (a : Args) (s : State) : (suspendAct a s).state.commandRecord = s.commandRecord :=
  checked_commandRecord (State.commandRecord_noticeIfSelf ..)

theorem resumeAct_commandRecord (a : Args) (s : State) : (resumeAct a s).state.commandRecord = s.commandRecord :=
  checked_commandRecord (State.commandRecord_noticeIfSelf ..)

theorem setBudgetAct_commandRecord (a : Args) (s : State) :
    (setBudgetAct a s).state.commandRecord = s.commandRecord := checked_commandRecord rfl

theorem readWindowAct_commandRecord (a : Args) (s : State) :
    (readWindowAct a s).state.commandRecord = s.commandRecord := checked_commandRecord rfl

/-! ## Commands on domains -/

theorem domainOpenAct_commandRecord (a : Args) (s : State) :
    (domainOpenAct a s).state.commandRecord = s.commandRecord := checked_commandRecord rfl

theorem domainSetAct_commandRecord (a : Args) (s : State) :
    (domainSetAct a s).state.commandRecord = s.commandRecord := checked_commandRecord rfl

theorem setFenceAct_commandRecord (a : Args) (s : State) :
    (setFenceAct a s).state.commandRecord = s.commandRecord := checked_commandRecord rfl

/-- FREEZE, THAW, HALT and RELEASE write one domain and pend its notice (R38, R43 to R46). -/
theorem domainChange_commandRecord (check : Args → State → Option ResultCode) (f : Domain → Domain) (a : Args)
    (s : State) : (Done.checked (check a s) (fun _ => domainChange f a s) s).state.commandRecord = s.commandRecord :=
  checked_commandRecord rfl

theorem purgeAct_commandRecord (a : Args) (s : State) : (purgeAct a s).state.commandRecord = s.commandRecord := by
  refine checked_commandRecord ?_
  have hleft : ((s.removeAll (argDom a)).unbindAll (argDom a)).commandRecord = s.commandRecord :=
    s.commandRecord_removeAll _
  unfold purgeEffect
  dsimp only
  split <;> exact hleft

theorem readDomainAct_commandRecord (a : Args) (s : State) :
    (readDomainAct a s).state.commandRecord = s.commandRecord := checked_commandRecord rfl

theorem readChainAct_commandRecord (a : Args) (s : State) :
    (readChainAct a s).state.commandRecord = s.commandRecord := checked_commandRecord rfl

/-! ## Commands on bindings, PROBE -/

theorem bindAct_commandRecord (a : Args) (s : State) : (bindAct a s).state.commandRecord = s.commandRecord := by
  refine checked_commandRecord ?_
  unfold bindEffect
  split <;> rfl

theorem unbindAct_commandRecord (a : Args) (s : State) : (unbindAct a s).state.commandRecord = s.commandRecord := by
  refine checked_commandRecord ?_
  unfold unbindEffect
  split <;> rfl

theorem streamSetAct_commandRecord (a : Args) (s : State) :
    (streamSetAct a s).state.commandRecord = s.commandRecord := by
  refine checked_commandRecord ?_
  unfold streamSetEffect
  split <;> rfl

theorem probeAct_commandRecord (a : Args) (s : State) : (probeAct a s).state.commandRecord = s.commandRecord := by
  refine checked_commandRecord ?_
  unfold probeEffect
  split <;> rfl

/-! ## Commands on targets, the timeout setting and links -/

/-- Entries that end at a target and tags that become free are not the command record's (R102, R103). -/
theorem targetSetAct_commandRecord (a : Args) (s : State) :
    (targetSetAct a s).state.commandRecord = s.commandRecord := by
  refine checked_commandRecord ?_
  unfold targetSetEffect
  dsimp only
  split
  · rfl
  · rfl
  · exact State.commandRecord_endAll ..
  · exact State.commandRecord_endAll ..

/-- A setting out of its range is refused (R118). -/
theorem setTimeoutAct_of_not_fits {a : Args} (h : ¬timeoutFits (argTimeout a)) (s : State) :
    setTimeoutAct a s = Done.refuse .badArgument s := by
  have hrange : argTimeout a < Config.timeoutMin ∨ Config.timeoutMax < argTimeout a := by
    simpa only [timeoutFits, not_and_or, not_le] using h
  rw [setTimeoutAct, if_pos hrange, Done.checked_some]

/-- A setting in its range is written, and the setting before returned (R118). -/
theorem setTimeoutAct_of_fits {a : Args} (h : timeoutFits (argTimeout a)) (s : State) : setTimeoutAct a s =
    ⟨s.setFabric { s.fabric with timeout := argTimeout a }, .ok, [fieldWord 0 32 s.fabric.timeout]⟩ := by
  have hrange : ¬(argTimeout a < Config.timeoutMin ∨ Config.timeoutMax < argTimeout a) := by
    simpa only [timeoutFits, not_or, not_lt] using h
  rw [setTimeoutAct, if_neg hrange, Done.checked_none]

/-- SET_TIMEOUT leaves the setting before, or one of its range (R118). -/
theorem setTimeoutAct_timeout (a : Args) (s : State) :
    (setTimeoutAct a s).state.fabric.timeout = s.fabric.timeout ∨
      timeoutFits (setTimeoutAct a s).state.fabric.timeout := by
  by_cases hfits : timeoutFits (argTimeout a)
  · rw [setTimeoutAct_of_fits hfits]
    exact .inr hfits
  · rw [setTimeoutAct_of_not_fits hfits]
    exact .inl rfl

theorem State.commandRecord_linkDisable (l : LinkId) (s : State) :
    (s.linkDisable l).commandRecord = s.commandRecord := by
  unfold State.linkDisable
  split
  case h_2 => exact State.commandRecord_leaveUp ..
  all_goals rfl

theorem linkSetAct_commandRecord (a : Args) (s : State) : (linkSetAct a s).state.commandRecord = s.commandRecord := by
  refine checked_commandRecord ?_
  exact commandRecord_ite (commandRecord_ite (State.commandRecord_enterDown ..) rfl)
    (commandRecord_ite (State.commandRecord_linkDisable ..) (commandRecord_ite (State.commandRecord_partReset ..) rfl))

/-! ## Control requests -/

theorem openAct_commandRecord (q : CtlRequest) (s : State) : (openAct q s).state.commandRecord = s.commandRecord := by
  unfold openAct
  split
  · rfl
  · unfold openEffect
    split <;> rfl

theorem closeAct_commandRecord (q : CtlRequest) (s : State) : (closeAct q s).state.commandRecord = s.commandRecord := by
  unfold closeAct
  split
  · rfl
  · exact State.commandRecord_removeWindow ..

theorem narrowAct_commandRecord (q : CtlRequest) (s : State) :
    (narrowAct q s).state.commandRecord = s.commandRecord := by
  unfold narrowAct
  split <;> rfl

theorem statusAct_commandRecord (q : CtlRequest) (s : State) :
    (statusAct q s).state.commandRecord = s.commandRecord := by
  unfold statusAct
  split <;> rfl

end Sys2Proof.Machine
end

section
/-! CERTIFICATES. The move that every event and every step makes at the command record; and so the law of CMD_STATUS and
of the timeout setting (R132, R118), which every step keeps. SET_TIMEOUT. -/

namespace Sys2Proof.Machine

open Sys2Proof.Spec

/-! ## An examination and the fabric side -/

theorem State.commandRecord_resolutionChanges (q : Request) (r : Ruling) (s : State) :
    (s.resolutionChanges q r).commandRecord = s.commandRecord :=
  State.commandRecord_of_tables (by simp) (by simp) (by simp)

theorem State.commandRecord_examine (l : LinkId) (e : EntryNo) (q : Request) (rest : List Request) (s : State) :
    (s.examine l e q rest).commandRecord = s.commandRecord := by
  have hchanges :=
    State.commandRecord_resolutionChanges q (s.ruling q) (s.modPort l fun p => { p with ingress := rest })
  unfold State.examine
  dsimp only
  split
  · exact hchanges
  · exact hchanges
  · split <;> exact hchanges

theorem execExamination_commandRecord {l : LinkId} {s t : State} (h : execExamination l s = .next t) :
    t.commandRecord = s.commandRecord := by
  unfold execExamination at h
  split at h
  · split at h
    · cases h
      exact State.commandRecord_examine ..
    · cases h
      rfl
  · cases h
    rfl

/-- A grant changes the tags and the link last granted, not the setting (R93, R94). -/
theorem execGrant_commandRecord {s t : State} (h : execGrant s = .next t) : t.commandRecord = s.commandRecord := by
  unfold execGrant at h
  split at h
  · split at h
    · cases h
      rfl
    · split at h <;> cases h <;> rfl
  · cases h
    rfl

theorem execCompletion_commandRecord {tag : Nat} {st : CompletionStatus} {data : List Byte} {s t : State}
    (h : execCompletion tag st data s = .next t) : t.commandRecord = s.commandRecord := by
  unfold execCompletion at h
  split at h
  · split at h
    · cases h
      rfl
    · cases h
      rfl
    · cases h
      exact State.commandRecord_endWithReply ..
  · cases h
    rfl

theorem execDeadlineExpiry_commandRecord {l : LinkId} {e : EntryNo} {s t : State}
    (h : execDeadlineExpiry l e s = .next t) : t.commandRecord = s.commandRecord := by
  unfold execDeadlineExpiry at h
  split at h
  · cases h
    exact State.commandRecord_endWithReply ..
  all_goals
    cases h
    rfl

/-! ## The links -/

theorem State.commandRecord_dataArrives (l : LinkId) (kind : ReqKind) (tag : PeerTag) (stream : StreamNo)
    (addr : InAddr) (len : Nat) (data : Option (List Byte)) (s : State) :
    (s.dataArrives l kind tag stream addr len data).commandRecord = s.commandRecord := by
  refine commandRecord_ite ?_ rfl
  split
  · rfl
  · exact State.commandRecord_protocolError ..
  · exact State.commandRecord_protocolError ..

/-- A control request that arrives joins the in-band queue, not the management slot (R142). -/
theorem State.commandRecord_ctlArrives (l : LinkId) (tag : CtlTag) (byte2 op : Byte) (body : List Byte) (s : State) :
    (s.ctlArrives l tag byte2 op body).commandRecord = s.commandRecord := by
  unfold State.ctlArrives
  refine commandRecord_ite (State.commandRecord_protocolError ..)
    (commandRecord_ite (State.commandRecord_protocolError ..) ?_)
  split
  · rfl
  · exact commandRecord_ite rfl (commandRecord_ite rfl rfl)

theorem execNoticeAck_commandRecord {l : LinkId} {s t : State} (h : execNoticeAck l s = .next t) :
    t.commandRecord = s.commandRecord := by
  cases h
  refine commandRecord_ite ?_ rfl
  split
  · rfl
  · exact State.commandRecord_protocolError ..
  · rfl

theorem execLinkReset_commandRecord {l : LinkId} {s t : State} (h : execLinkReset l s = .next t) :
    t.commandRecord = s.commandRecord := by
  cases h
  split
  case h_1 => exact State.commandRecord_leaveUp ..
  all_goals rfl

theorem execSignalLoss_commandRecord {l : LinkId} {s t : State} (h : execSignalLoss l s = .next t) :
    t.commandRecord = s.commandRecord := by
  cases h
  split
  · rfl
  · rfl
  · exact State.commandRecord_enterDown ..
  · rw [State.commandRecord_enterDown, State.commandRecord_leaveUp]
    rfl
  · exact State.commandRecord_enterDown ..

theorem execHelloTimerExpiry_commandRecord {l : LinkId} {s t : State} (h : execHelloTimerExpiry l s = .next t) :
    t.commandRecord = s.commandRecord := by
  cases h
  split <;> rfl

theorem execHandshakeTimerExpiry_commandRecord {l : LinkId} {s t : State}
    (h : execHandshakeTimerExpiry l s = .next t) : t.commandRecord = s.commandRecord := by
  cases h
  split <;> rfl

theorem execSendDataReply_commandRecord {l : LinkId} {tag : PeerTag} {s t : State}
    (h : execSendDataReply l tag s = .next t) : t.commandRecord = s.commandRecord := by
  cases h
  refine commandRecord_ite ?_ rfl
  split <;> rfl

theorem execSendCtlReply_commandRecord {l : LinkId} {tag : CtlTag} {s t : State}
    (h : execSendCtlReply l tag s = .next t) : t.commandRecord = s.commandRecord := by
  cases h
  refine commandRecord_ite ?_ rfl
  split <;> rfl

/-! ## Resets and register writes -/

/-- The links start again; the engine, the port and the setting stay as the tables of the reset have them (R174). -/
theorem State.commandRecord_restartLinks (wasUp : LinkId → Bool) (s : State) :
    (s.restartLinks wasUp).commandRecord = s.commandRecord := by
  rw [State.restartLinks_eq]
  rfl

theorem State.powerOn_commandMove (s : State) :
    CommandMove s.commandRecord (s.powerOnTables.restartLinks fun _ => false).commandRecord := by
  rw [State.commandRecord_restartLinks]
  exact .restarts

theorem State.deviceReset_commandMove (s : State) : CommandMove s.commandRecord s.deviceReset.commandRecord := by
  rw [State.deviceReset, State.commandRecord_restartLinks]
  exact .restarts

/-- A write to CMD_ISSUE fills the slot when it is empty, and is an overrun when it is full (R129, R130). -/
theorem State.writeCmdIssue_commandMove (value : Word) (s : State) :
    CommandMove s.commandRecord (s.writeCmdIssue value).commandRecord := by
  unfold State.writeCmdIssue
  split
  · exact .stays
  · next hempty =>
    exact CommandMove.issues (r := s.commandRecord)
      ⟨value.extractLsb' 0 8, value.extractLsb' 8 8, s.mgmt.staging⟩ hempty

theorem State.writeRegister_commandMove (r : Register) (value : Word) (s : State) :
    CommandMove s.commandRecord (s.writeRegister r value).commandRecord := by
  cases r with
  | deviceControl =>
    unfold State.writeRegister
    dsimp only
    split
    · exact s.deviceReset_commandMove
    · exact .stays
  | cmdIssue => exact s.writeCmdIssue_commandMove value
  | cmdArg | unboundSet | eventLatch | eventEnable | summaryEnable | identification | cmdStatus | cmdResult | linkState
  | targetState0 | targetState1 | tagStatus | summary | unassigned =>
    exact .stays

/-! ## The moves of an event and of a step -/

theorem CommandMove.of_eq {r r' : CommandRecord} (h : r' = r) : CommandMove r r' := h ▸ .stays

/-- Every event makes one move at the command record. -/
theorem exec_commandMove {c : Instr} {s t : State} (h : exec c s = .next t) :
    CommandMove s.commandRecord t.commandRecord := by
  cases c with
  | install => exact takeCommand_commandMove installAct_commandRecord h
  | replace => exact takeCommand_commandMove replaceAct_commandRecord h
  | retire => exact takeCommand_commandMove retireAct_commandRecord h
  | suspend => exact takeCommand_commandMove suspendAct_commandRecord h
  | resume => exact takeCommand_commandMove resumeAct_commandRecord h
  | setBudget => exact takeCommand_commandMove setBudgetAct_commandRecord h
  | readWindow => exact takeCommand_commandMove readWindowAct_commandRecord h
  | domainOpen => exact takeCommand_commandMove domainOpenAct_commandRecord h
  | domainSet => exact takeCommand_commandMove domainSetAct_commandRecord h
  | setFence => exact takeCommand_commandMove setFenceAct_commandRecord h
  | freeze => exact takeCommand_commandMove (domainChange_commandRecord freezeCheck _) h
  | thaw => exact takeCommand_commandMove (domainChange_commandRecord thawCheck _) h
  | halt => exact takeCommand_commandMove (domainChange_commandRecord haltCheck _) h
  | release => exact takeCommand_commandMove (domainChange_commandRecord releaseCheck _) h
  | purge => exact takeCommand_commandMove purgeAct_commandRecord h
  | readDomain => exact takeCommand_commandMove readDomainAct_commandRecord h
  | readChain => exact takeCommand_commandMove readChainAct_commandRecord h
  | bind => exact takeCommand_commandMove bindAct_commandRecord h
  | unbind => exact takeCommand_commandMove unbindAct_commandRecord h
  | streamSet => exact takeCommand_commandMove streamSetAct_commandRecord h
  | targetSet => exact takeCommand_commandMove targetSetAct_commandRecord h
  | setTimeout => exact takeCommand_commandMove_of_timeout (fun a => setTimeoutAct_timeout a s) h
  | linkSet => exact takeCommand_commandMove linkSetAct_commandRecord h
  | probe => exact takeCommand_commandMove probeAct_commandRecord h
  | badCommand => exact takeCommand_commandMove (fun _ _ => rfl) h
  | openWindow => exact .of_eq (takeControl_commandRecord openAct_commandRecord h)
  | closeWindow => exact .of_eq (takeControl_commandRecord closeAct_commandRecord h)
  | narrow => exact .of_eq (takeControl_commandRecord narrowAct_commandRecord h)
  | status => exact .of_eq (takeControl_commandRecord statusAct_commandRecord h)
  | ctl =>
    cases h
    exact .of_eq (commandRecord_ite (State.commandRecord_ctlArrives ..) rfl)
  | wr | rd | rds =>
    cases h
    exact .of_eq (State.commandRecord_dataArrives ..)
  | noticeAck => exact .of_eq (execNoticeAck_commandRecord h)
  | linkReset => exact .of_eq (execLinkReset_commandRecord h)
  | unknownKind =>
    cases h
    exact .of_eq (commandRecord_ite (State.commandRecord_protocolError ..) rfl)
  | hello | signalDetection | notice =>
    cases h
    exact .of_eq (commandRecord_ite rfl rfl)
  | signalLoss => exact .of_eq (execSignalLoss_commandRecord h)
  | helloTimerExpiry => exact .of_eq (execHelloTimerExpiry_commandRecord h)
  | handshakeTimerExpiry => exact .of_eq (execHandshakeTimerExpiry_commandRecord h)
  | examination => exact .of_eq (execExamination_commandRecord h)
  | grant => exact .of_eq (execGrant_commandRecord h)
  | completion => exact .of_eq (execCompletion_commandRecord h)
  | deadlineExpiry => exact .of_eq (execDeadlineExpiry_commandRecord h)
  | sendDataReply => exact .of_eq (execSendDataReply_commandRecord h)
  | sendCtlReply => exact .of_eq (execSendCtlReply_commandRecord h)
  | powerOnReset =>
    cases h
    exact s.powerOn_commandMove
  | deviceReset =>
    cases h
    exact s.deviceReset_commandMove
  | cmdIssue value =>
    cases h
    exact s.writeCmdIssue_commandMove value
  | registerWrite =>
    cases h
    exact s.writeRegister_commandMove ..
  | unboundSetRemove | eventClear | eventEnableWrite | summaryEnableWrite =>
    cases h
    exact .stays

/-- Every step makes one move at the command record. -/
theorem step_commandMove {s t : State} (h : step s = .next t) : CommandMove s.commandRecord t.commandRecord := by
  unfold step at h
  split at h
  · next c rest _ =>
    have hpop : ({ s with pending := rest } : State).commandRecord = s.commandRecord := rfl
    exact hpop ▸ exec_commandMove h
  · unfold idleStep at h
    split at h
    · exact exec_commandMove h
    · cases h
      exact .stays

/-- Settles O60: the law reads the command record, and every move of the record keeps it. -/
theorem commandStatusLawKeptByStep : Obligations.CommandStatusLawKeptByStep :=
  fun s t _ hs hstep =>
    (statusMatchesSlot_iff t).2 ((step_commandMove hstep).keeps_sound ((statusMatchesSlot_iff s).1 hs))

/-! ## SET_TIMEOUT -/

/-- The argument of SET_TIMEOUT is the whole of its word (R192). -/
theorem argTimeout_eq (a : Args) : argTimeout a = (a[(0 : Fin 12)]).toNat := by
  simp [argTimeout, argField]

/-- A field that is the whole word is the number itself. -/
theorem fieldWord_whole (v : Nat) : fieldWord 0 32 v = BitVec.ofNat 32 v := by
  simp [fieldWord]

/-- Settles O38: the range of the argument word selects the refusal or the write of the setting. -/
theorem setTimeoutChangesSettingAlone : Obligations.SetTimeoutChangesSettingAlone := by
  intro s c ht v
  have hv : argTimeout c.args = v := argTimeout_eq c.args
  refine ⟨fun hout => (takeCommand_takes ht).trans ?refused,
    fun hmin hmax => (takeCommand_takes ht).trans ?accepted⟩
  case refused =>
    have hbad : ¬timeoutFits (argTimeout c.args) := by
      rw [hv]
      exact fun ⟨hmin, hmax⟩ => hout.elim (not_lt.2 hmin) (not_lt.2 hmax)
    rw [setTimeoutAct_of_not_fits hbad]
    rfl
  case accepted =>
    have hfits : timeoutFits (argTimeout c.args) := by
      rw [hv]
      exact ⟨hmin, hmax⟩
    rw [setTimeoutAct_of_fits hfits, fieldWord_whole, hv]
    rfl

end Sys2Proof.Machine
end

section
/-! SUPPORT. The credit account of a link: the credits, the unreplied tags and the requests in flight of its data requests
(R163) and of its control requests (R141), and what one event can do to it. -/

namespace Sys2Proof.Machine

/-! ## Ledgers of credits -/

/-- The credits that a peer spends and gets back for one kind of request: the tags of the requests accepted and not yet
replied, the tags the port holds as unreplied, and the credits left (R141, R163). -/
structure Ledger (n : Nat) where
  outstanding : List (Fin n)
  unreplied : Vector Bool n
  credits : Nat

/-- The credit law of one ledger: the unreplied tags are exactly the outstanding ones, each once, and the credits and the
outstanding requests together are the `total` granted. -/
def Ledger.Sound {n : Nat} (total : Nat) (a : Ledger n) : Prop :=
  a.outstanding.Nodup ∧ (∀ t : Fin n, a.unreplied[t] = true ↔ t ∈ a.outstanding) ∧
    a.credits + a.outstanding.length = total

/-- The ledger with all `total` credits granted and no request (R161). -/
def Ledger.opened (n total : Nat) : Ledger n := ⟨[], Vector.replicate n false, total⟩

/-- The same requests are outstanding, in whatever place of the part. -/
structure Ledger.Same {n : Nat} (a b : Ledger n) : Prop where
  outstanding : b.outstanding.Perm a.outstanding
  unreplied : b.unreplied = a.unreplied
  credits : b.credits = a.credits

/-- A request of an unreplied tag is accepted and spends a credit. -/
structure Ledger.Accepts {n : Nat} (tag : Fin n) (a b : Ledger n) : Prop where
  credit : a.credits ≠ 0
  fresh : a.unreplied[tag] = false
  outstanding : b.outstanding.Perm (tag :: a.outstanding)
  unreplied : b.unreplied = a.unreplied.set tag true
  credits : b.credits = a.credits - 1

/-- A request is replied and its credit returns. -/
structure Ledger.Replies {n : Nat} (tag : Fin n) (a b : Ledger n) : Prop where
  outstanding : a.outstanding.Perm (tag :: b.outstanding)
  unreplied : b.unreplied = a.unreplied.set tag false
  credits : b.credits = a.credits + 1

theorem Ledger.Same.refl {n : Nat} (a : Ledger n) : a.Same a := ⟨.refl _, rfl, rfl⟩

theorem Ledger.Same.trans {n : Nat} {a b c : Ledger n} (h : a.Same b) (h' : b.Same c) : a.Same c :=
  ⟨h'.outstanding.trans h.outstanding, h'.unreplied.trans h.unreplied, h'.credits.trans h.credits⟩

theorem Ledger.opened_sound (n total : Nat) : (Ledger.opened n total).Sound total := by
  simp [Ledger.opened, Ledger.Sound]

theorem getElem_set_tag {n : Nat} (v : Vector Bool n) (tag t : Fin n) (x : Bool) :
    (v.set tag x)[t] = if tag = t then x else v[t] := by
  simp [Vector.getElem_set, Fin.ext_iff]

section
variable {n total : Nat} {tag : Fin n} {a b : Ledger n}

theorem Ledger.Same.keeps_sound (h : a.Same b) (ha : a.Sound total) : b.Sound total := by
  obtain ⟨hnodup, htags, hsum⟩ := ha
  refine ⟨h.outstanding.nodup_iff.2 hnodup, fun t => ?_, ?_⟩
  · rw [h.unreplied, htags, h.outstanding.mem_iff]
  · rw [h.credits, h.outstanding.length_eq, hsum]

theorem Ledger.Accepts.keeps_sound (h : a.Accepts tag b) (ha : a.Sound total) : b.Sound total := by
  obtain ⟨hnodup, htags, hsum⟩ := ha
  have hnew : tag ∉ a.outstanding := fun hin => by simpa [h.fresh] using (htags tag).2 hin
  refine ⟨h.outstanding.nodup_iff.2 (List.nodup_cons.2 ⟨hnew, hnodup⟩), fun t => ?_, ?_⟩
  · rw [h.unreplied, h.outstanding.mem_iff, getElem_set_tag, List.mem_cons]
    split
    · next htag => simp [htag]
    · next htag => exact (htags t).trans (by simp [Ne.symm htag])
  · have hcredit := h.credit
    rw [h.credits, h.outstanding.length_eq, List.length_cons]
    omega

theorem Ledger.Replies.keeps_sound (h : a.Replies tag b) (ha : a.Sound total) : b.Sound total := by
  obtain ⟨hnodup, htags, hsum⟩ := ha
  obtain ⟨hgone, hrest⟩ := List.nodup_cons.1 (h.outstanding.nodup_iff.1 hnodup)
  refine ⟨hrest, fun t => ?_, ?_⟩
  · rw [h.unreplied, getElem_set_tag]
    split
    · next htag => simpa [htag] using htag ▸ hgone
    · next htag => exact (htags t).trans (h.outstanding.mem_iff.trans (by simp [Ne.symm htag]))
  · rw [h.outstanding.length_eq, List.length_cons] at hsum
    rw [h.credits]
    omega

end

/-! ## The account of a link -/

/-- What the credit laws read of one link. -/
structure LinkAccount where
  state : LinkState
  ingress : List Request
  data : Ledger 16
  ctl : Ledger 2
  notice : NoticeCredit

/-- The account that a port shows with the peer tags of its busy entries and the control tags of its requests in the
in-band queue. -/
def LinkPort.account (p : LinkPort) (busy : List PeerTag) (asked : List CtlTag) : LinkAccount where
  state := p.state
  ingress := p.ingress
  data := ⟨p.ingress.map (·.tag) ++ p.outData.map (·.tag) ++ busy, p.unrepliedTags, p.dataCredits⟩
  ctl := ⟨asked ++ p.outCtl.map (·.tag), p.unrepliedCtl, p.ctlCredits⟩
  notice := p.noticeCredit

/-- The peer tags of a link's busy entries (R86). -/
def State.busyTags (s : State) (l : LinkId) : List PeerTag :=
  (List.finRange 8).filterMap fun e => (s.entry l e).request?.map (·.tag)

/-- The control tags of a link's requests in the in-band queue (R122). -/
def State.askedTags (s : State) (l : LinkId) : List CtlTag :=
  (s.engine.inband.filter fun q => decide (q.link = l)).map (·.tag)

def State.account (s : State) (l : LinkId) : LinkAccount := (s.port l).account (s.busyTags l) (s.askedTags l)

/-- The data credit law of one link (R163). -/
def LinkAccount.DataSound (l : LinkId) (a : LinkAccount) : Prop :=
  a.state = .up → a.data.Sound 12 ∧ ∀ q ∈ a.ingress, q.link = l

/-- The control credit law of one link (R141). -/
def LinkAccount.CtlSound (a : LinkAccount) : Prop := a.state = .up → a.ctl.Sound 2 ∧ a.notice ≠ .absent

theorem dataCreditLaw_iff (s : State) : dataCreditLaw s ↔ ∀ l, (s.account l).DataSound l :=
  forall_congr' fun _ => imp_congr_right fun _ =>
    ⟨fun ⟨hnodup, htags, hsum, hlink⟩ => ⟨⟨hnodup, htags, hsum⟩, hlink⟩,
      fun ⟨⟨hnodup, htags, hsum⟩, hlink⟩ => ⟨hnodup, htags, hsum, hlink⟩⟩

theorem ctlCreditLaw_iff (s : State) :
    ctlCreditLaw s ↔ s.engine.inband.length ≤ 6 ∧ ∀ l, (s.account l).CtlSound :=
  and_congr_right fun _ => forall_congr' fun _ => imp_congr_right fun _ =>
    ⟨fun ⟨hnodup, htags, hsum, hnotice⟩ => ⟨⟨hnodup, htags, hsum⟩, hnotice⟩,
      fun ⟨⟨hnodup, htags, hsum⟩, hnotice⟩ => ⟨hnodup, htags, hsum, hnotice⟩⟩

/-! ## The moves of an account -/

/-- Requests change their place in the part; none is accepted or replied. -/
structure LinkAccount.Same (a b : LinkAccount) : Prop where
  state : b.state = a.state
  ingress : ∀ q ∈ b.ingress, q ∈ a.ingress
  data : a.data.Same b.data
  ctl : a.ctl.Same b.ctl
  notice : b.notice = a.notice

/-- What one event can do to the account of link `l`. -/
inductive LinkAccount.Move (l : LinkId) (a : LinkAccount) : LinkAccount → Prop
  | same {b : LinkAccount} (h : a.Same b) : Move l a b
  /-- the link is not UP afterwards -/
  | leaves {b : LinkAccount} (h : b.state ≠ .up) : Move l a b
  /-- the link enters UP with full credits (R161) -/
  | comesUp {b : LinkAccount} (hingress : b.ingress = []) (hdata : b.data = .opened 16 12) (hctl : b.ctl = .opened 2 2)
      (hnotice : b.notice = .held) : Move l a b
  | acceptsData {q : Request} {d : Ledger 16} (hlink : q.link = l) (h : a.data.Accepts q.tag d) :
      Move l a { a with ingress := a.ingress ++ [q], data := d }
  | repliesData {tag : PeerTag} {d : Ledger 16} (h : a.data.Replies tag d) : Move l a { a with data := d }
  | acceptsCtl {tag : CtlTag} {d : Ledger 2} (h : a.ctl.Accepts tag d) : Move l a { a with ctl := d }
  | repliesCtl {tag : CtlTag} {d : Ledger 2} (h : a.ctl.Replies tag d) : Move l a { a with ctl := d }
  /-- a NOTICE spends the notice credit, or its acknowledgement returns it (R153, R154) -/
  | notice {c : NoticeCredit} (h : c ≠ .absent) : Move l a { a with notice := c }

theorem LinkAccount.Same.refl (a : LinkAccount) : a.Same a := ⟨rfl, fun _ => id, .refl _, .refl _, rfl⟩

theorem LinkAccount.Same.of_eq {a b : LinkAccount} (h : b = a) : a.Same b := h ▸ .refl a

theorem LinkAccount.Same.trans {a b c : LinkAccount} (h : a.Same b) (h' : b.Same c) : a.Same c :=
  ⟨h'.state.trans h.state, fun q hq => h.ingress q (h'.ingress q hq), h.data.trans h'.data, h.ctl.trans h'.ctl,
    h'.notice.trans h.notice⟩

section
variable {l : LinkId} {a b : LinkAccount}

theorem LinkAccount.Move.keeps_dataSound (h : Move l a b) (ha : a.DataSound l) : b.DataSound l := by
  intro hup
  cases h with
  | same h =>
    obtain ⟨hdata, hlink⟩ := ha (h.state.symm.trans hup)
    exact ⟨h.data.keeps_sound hdata, fun q hq => hlink q (h.ingress q hq)⟩
  | leaves h => exact absurd hup h
  | comesUp hingress hdata => exact ⟨hdata ▸ Ledger.opened_sound 16 12, by simp [hingress]⟩
  | acceptsData hl h =>
    obtain ⟨hdata, hlink⟩ := ha hup
    refine ⟨h.keeps_sound hdata, fun q hq => ?_⟩
    obtain hq | hq := List.mem_append.1 hq
    · exact hlink q hq
    · exact List.mem_singleton.1 hq ▸ hl
  | repliesData h => exact (ha hup).imp_left h.keeps_sound
  | acceptsCtl | repliesCtl | notice => exact ha hup

theorem LinkAccount.Move.keeps_ctlSound (h : Move l a b) (ha : a.CtlSound) : b.CtlSound := by
  intro hup
  cases h with
  | same h => exact (ha (h.state.symm.trans hup)).imp h.ctl.keeps_sound (h.notice ▸ ·)
  | leaves h => exact absurd hup h
  | comesUp _ _ hctl hnotice => exact ⟨hctl ▸ Ledger.opened_sound 2 2, by simp [hnotice]⟩
  | acceptsCtl h => exact (ha hup).imp_left h.keeps_sound
  | repliesCtl h => exact (ha hup).imp_left h.keeps_sound
  | notice h => exact ⟨(ha hup).1, h⟩
  | acceptsData | repliesData => exact ha hup

end

/-! ## The accounts of all links -/

/-- What one event can do to the credits: a move at the account of each link, and an in-band queue within its six
entries (R122). -/
structure State.CreditStep (s t : State) : Prop where
  accounts : ∀ l, (s.account l).Move l (t.account l)
  queue : s.engine.inband.length ≤ 6 → t.engine.inband.length ≤ 6

/-- Requests change their place on any link, and the in-band queue takes none. -/
structure State.SameAccounts (s t : State) : Prop where
  accounts : ∀ l, (s.account l).Same (t.account l)
  queue : t.engine.inband.length ≤ s.engine.inband.length

/-- What happens on link `l` leaves the accounts of the other links. -/
def State.OtherAccounts (l : LinkId) (s t : State) : Prop := ∀ m, l ≠ m → t.account m = s.account m

theorem State.SameFlow.account {s t : State} (h : s.SameFlow t) (l : LinkId) : t.account l = s.account l := by
  obtain ⟨n, u, hp⟩ := h.ports l
  simp only [State.account, State.busyTags, State.askedTags, State.entry_eq, hp, h.entries, h.inband]
  rfl

theorem State.SameFlow.sameAccounts {s t : State} (h : s.SameFlow t) : s.SameAccounts t :=
  ⟨fun l => .of_eq (h.account l), by rw [h.inband]⟩

/-- Neither the tags nor the targets are an account's. -/
theorem State.SameAccounts.of_tables {s t : State} (hentries : t.entries = s.entries)
    (hinband : t.engine.inband = s.engine.inband) (hports : t.ports = s.ports) : s.SameAccounts t := by
  refine ⟨fun l => .of_eq ?_, by rw [hinband]⟩
  simp only [State.account, State.busyTags, State.askedTags, State.entry_eq, State.port_eq, hentries, hinband, hports]

theorem State.SameAccounts.refl (s : State) : s.SameAccounts s := ⟨fun _ => .refl _, le_rfl⟩

theorem State.SameAccounts.trans {s t u : State} (h : s.SameAccounts t) (h' : t.SameAccounts u) : s.SameAccounts u :=
  ⟨fun l => (h.accounts l).trans (h'.accounts l), h'.queue.trans h.queue⟩

theorem State.SameAccounts.creditStep {s t : State} (h : s.SameAccounts t) : s.CreditStep t :=
  ⟨fun l => .same (h.accounts l), h.queue.trans⟩

theorem State.SameFlow.creditStep {s t : State} (h : s.SameFlow t) : s.CreditStep t := h.sameAccounts.creditStep

theorem State.CreditStep.refl (s : State) : s.CreditStep s := (State.SameAccounts.refl s).creditStep

theorem State.CreditStep.then_same {s t u : State} (h : s.CreditStep t) (h' : t.SameFlow u) : s.CreditStep u :=
  ⟨fun l => h'.account l ▸ h.accounts l, fun hs => by rw [h'.inband]; exact h.queue hs⟩

theorem State.SameFlow.then_step {s t u : State} (h : s.SameFlow t) (h' : t.CreditStep u) : s.CreditStep u :=
  ⟨fun l => h.account l ▸ h'.accounts l, fun hs => h'.queue (by rwa [h.inband])⟩

theorem State.CreditStep.ite {p : Prop} [Decidable p] {s t u : State} (ht : p → s.CreditStep t)
    (hu : ¬p → s.CreditStep u) : s.CreditStep (if p then t else u) := by
  split
  · next h => exact ht h
  · next h => exact hu h

/-- An event on one link. -/
theorem State.CreditStep.on_link {s t : State} {l : LinkId} (hlink : (s.account l).Move l (t.account l))
    (hothers : s.OtherAccounts l t) (hqueue : s.engine.inband.length ≤ 6 → t.engine.inband.length ≤ 6) :
    s.CreditStep t := by
  refine ⟨fun m => ?_, hqueue⟩
  by_cases hlm : l = m
  · exact hlm ▸ hlink
  · exact hothers m hlm ▸ .same (.refl _)

/-! ## Operations on the port of one link -/

theorem State.account_setPort (l m : LinkId) (p : LinkPort) (s : State) : (s.setPort l p).account m =
    if l = m then p.account (s.busyTags l) (s.askedTags l) else s.account m := by
  unfold State.account
  rw [State.port_setPort]
  split
  · next hlm => exact hlm ▸ rfl
  · rfl

theorem State.account_setPort_same (l : LinkId) (p : LinkPort) (s : State) :
    (s.setPort l p).account l = p.account (s.busyTags l) (s.askedTags l) := by
  rw [State.account_setPort, if_pos rfl]

theorem State.OtherAccounts.trans {l : LinkId} {s t u : State} (h : s.OtherAccounts l t) (h' : t.OtherAccounts l u) :
    s.OtherAccounts l u := fun m hlm => (h' m hlm).trans (h m hlm)

theorem State.setPort_otherAccounts (l : LinkId) (p : LinkPort) (s : State) : s.OtherAccounts l (s.setPort l p) :=
  fun m hlm => by rw [State.account_setPort, if_neg hlm]

/-- The port of a link changes. -/
theorem State.CreditStep.setPort {s : State} {l : LinkId} {p : LinkPort}
    (h : (s.account l).Move l (p.account (s.busyTags l) (s.askedTags l))) : s.CreditStep (s.setPort l p) :=
  .on_link (by rwa [State.account_setPort_same]) (s.setPort_otherAccounts l p) id

end Sys2Proof.Machine
end

section
/-! SUPPORT. The credits over the operations that the events share: a link that leaves UP, tracker entries that end or
begin, and the takings at the engine. -/

namespace Sys2Proof.Machine

/-! ## A link that leaves UP (R105, R126, R159) -/

theorem State.account_state (l : LinkId) (s : State) : (s.account l).state = (s.port l).state := rfl

/-- An event after which a link is not UP, and which leaves the other links' requests. -/
theorem State.CreditStep.leaves {s t : State} {l : LinkId} (hdown : (t.port l).state ≠ .up)
    (hothers : s.OtherAccounts l t) (hqueue : t.engine.inband.length ≤ s.engine.inband.length) : s.CreditStep t :=
  .on_link (.leaves hdown) hothers hqueue.trans

theorem State.leaveUp_otherAccounts (l : LinkId) (s : State) : s.OtherAccounts l (s.leaveUp l) := by
  intro m hlm
  have hasked : (s.leaveUp l).askedTags m = s.askedTags m := by
    unfold State.askedTags
    rw [State.engine_leaveUp, List.filter_filter]
    refine congrArg _ (List.filter_congr fun q _ => ?_)
    by_cases hq : q.link = m <;> simp [hq, Ne.symm hlm]
  have hbusy : (s.leaveUp l).busyTags m = s.busyTags m := by
    unfold State.busyTags
    simp only [State.entry_leaveUp, if_neg hlm]
  unfold State.account
  rw [State.port_leaveUp, if_neg hlm, hasked, hbusy]

theorem State.inband_leaveUp_length (l : LinkId) (s : State) :
    (s.leaveUp l).engine.inband.length ≤ s.engine.inband.length := by
  rw [State.engine_leaveUp]
  exact List.length_filter_le ..

theorem State.enterTraining_otherAccounts (l : LinkId) (s : State) : s.OtherAccounts l (s.enterTraining l) :=
  s.setPort_otherAccounts l _

theorem State.enterDown_otherAccounts (l : LinkId) (s : State) : s.OtherAccounts l (s.enterDown l) := by
  unfold State.enterDown
  dsimp only
  split
  · exact (s.setPort_otherAccounts l _).trans (State.enterTraining_otherAccounts l _)
  · exact s.setPort_otherAccounts l _

theorem State.enterTraining_not_up (l : LinkId) (s : State) : ((s.enterTraining l).port l).state ≠ .up := by
  simp [State.port_enterTraining]

theorem State.enterDown_not_up (l : LinkId) (s : State) : ((s.enterDown l).port l).state ≠ .up := by
  unfold State.enterDown
  dsimp only
  split
  · exact State.enterTraining_not_up l _
  · simp [State.port_modPort]

theorem State.enterTraining_creditStep (l : LinkId) (s : State) : s.CreditStep (s.enterTraining l) :=
  .leaves (s.enterTraining_not_up l) (s.enterTraining_otherAccounts l) le_rfl

theorem State.enterDown_creditStep (l : LinkId) (s : State) : s.CreditStep (s.enterDown l) :=
  .leaves (s.enterDown_not_up l) (s.enterDown_otherAccounts l) (by simp)

theorem State.enterDisabled_creditStep (l : LinkId) (s : State) : s.CreditStep (s.enterDisabled l) :=
  .leaves (by simp [State.enterDisabled, State.port_modPort]) (s.setPort_otherAccounts l _) le_rfl

theorem State.partReset_creditStep (l : LinkId) (s : State) : s.CreditStep (s.partReset l) :=
  .leaves (by simp [State.port_partReset])
    ((s.leaveUp_otherAccounts l).trans (State.setPort_otherAccounts l _ ((s.leaveUp l).send l .linkReset)))
    (s.inband_leaveUp_length l)

/-- A protocol error resets its link, whatever the cause (R168). -/
theorem State.protocolError_creditStep (l : LinkId) (c : ErrorCause) (s : State) : s.CreditStep (s.protocolError l c) := by
  have hcause : s.OtherAccounts l ((s.modPort l fun p => { p with errorCause := some c }).raiseLink l .protocol) :=
    s.setPort_otherAccounts l _
  refine .leaves (by simp [State.protocolError, State.port_partReset]) (hcause.trans ?_) ?_
  · exact (State.leaveUp_otherAccounts l _).trans (State.setPort_otherAccounts l _ _)
  · exact State.inband_leaveUp_length l _

/-! ## Tracker entries (R86) -/

/-- An element that gains a value of `g` over `f` adds that value to what the list gives. -/
theorem filterMap_perm_cons {α β : Type} {f g : α → Option β} {a : α} {b : β} {xs : List α} (hn : xs.Nodup)
    (ha : a ∈ xs) (hf : f a = none) (hg : g a = some b) (hsame : ∀ x, x ≠ a → g x = f x) :
    (xs.filterMap g).Perm (b :: xs.filterMap f) := by
  obtain ⟨pre, post, rfl⟩ := List.append_of_mem ha
  obtain ⟨-, hpost, hdisj⟩ := List.nodup_append.1 hn
  have hpre : pre.filterMap g = pre.filterMap f :=
    List.filterMap_congr fun x hx => hsame x fun h => hdisj x hx a (by simp) h
  have hrest : post.filterMap g = post.filterMap f :=
    List.filterMap_congr fun x hx => hsame x fun h => (List.nodup_cons.1 hpost).1 (h ▸ hx)
  simp only [List.filterMap_append, List.filterMap_cons, hf, hg, hpre, hrest]
  exact List.perm_middle

/-- A FREE entry that takes a request adds its peer tag to those of the busy entries. -/
theorem State.busyTags_perm {s t : State} {l : LinkId} {e : EntryNo} {r : EntryReq} (hfree : s.entry l e = .free)
    (hbusy : (t.entry l e).request? = some r) (hsame : ∀ f, f ≠ e → t.entry l f = s.entry l f) :
    (t.busyTags l).Perm (r.tag :: s.busyTags l) :=
  filterMap_perm_cons (List.nodup_finRange 8) (List.mem_finRange e) (by simp [hfree, Entry.request?])
    (by simp [hbusy]) fun f hf => by rw [hsame f hf]

theorem State.busyTags_of_eq {s t : State} {l : LinkId} (h : ∀ e, t.entry l e = s.entry l e) :
    t.busyTags l = s.busyTags l := by
  simp only [State.busyTags, h]

theorem State.askedTags_of_eq {s t : State} (h : t.engine.inband = s.engine.inband) (l : LinkId) :
    t.askedTags l = s.askedTags l := by
  simp only [State.askedTags, h]

/-- The request of an entry that ends is outstanding as a reply handed and not sent (R91, R163). -/
theorem State.endWithReply_sameAccounts (fate : TagFate) (answer : EntryReq → DataAnswer) (l : LinkId) (e : EntryNo)
    (s : State) : s.SameAccounts (s.endWithReply fate answer l e) := by
  obtain hx | ⟨r, hr⟩ := (s.entry l e).free_or_request
  · rw [State.endWithReply_free hx]
    exact .refl s
  · refine ⟨fun m => ?_, by simp⟩
    have hasked := State.askedTags_of_eq (congrArg (·.inband) (State.endWithReply_engine fate answer l e s)) m
    unfold State.account
    rw [hasked, State.port_endWithReply hr]
    split
    · next hlm =>
      subst hlm
      have hbusy : (s.busyTags l).Perm (r.tag :: (s.endWithReply fate answer l e).busyTags l) :=
        State.busyTags_perm (e := e) (by simp [State.entry_endWithReply]) hr
          fun f hf => by rw [State.entry_endWithReply, if_neg fun h => hf h.2.symm]
      refine ⟨rfl, fun _ => id, ⟨?_, rfl, rfl⟩, .refl _, rfl⟩
      simp only [LinkPort.account, List.map_append, List.map_cons, List.map_nil, List.append_assoc]
      exact ((hbusy.symm.append_left _).append_left _)
    · next hlm =>
      rw [State.busyTags_of_eq fun f => by rw [State.entry_endWithReply, if_neg fun h => hlm h.1]]
      exact .refl _

theorem State.endAll_sameAccounts (les : List (LinkId × EntryNo)) (s : State) : s.SameAccounts (s.endAll les) := by
  induction les generalizing s with
  | nil => exact .refl s
  | cons le rest ih => exact (s.endWithReply_sameAccounts ..).trans (ih _)

/-! ## The takings at the engine -/

theorem takeCommand_creditStep {mine : BitVec 8 → Bool} {act : Args → State → Done} {s t : State}
    (hact : ∀ a, s.CreditStep (act a s).state) (h : takeCommand mine act s = .next t) : s.CreditStep t := by
  obtain rfl | ⟨c, -, -, -, rfl⟩ := takeCommand_cases h
  · exact .refl _
  · exact (hact c.args).then_same (finishCommand_sameFlow ..)

/-- A control request that leaves the queue is outstanding as a reply handed and not sent (R127, R141). -/
theorem finishControl_sameAccounts {q : CtlRequest} {rest : List CtlRequest} (r : CtlDone)
    (hq : r.state.engine.inband = q :: rest) : r.state.SameAccounts (finishControl q rest r) := by
  refine ⟨fun l => ?_, by simp [hq]⟩
  have hport : (finishControl q rest r).port l =
      if q.link = l then
        { r.state.port q.link with
          outCtl := (r.state.port q.link).outCtl ++ [⟨q.tag, q.byte2, r.code, r.body⟩] }
      else r.state.port l := State.port_modPort q.link l _ _
  have hasked : r.state.askedTags l = (if q.link = l then [q.tag] else []) ++ (finishControl q rest r).askedTags l := by
    simp only [State.askedTags, hq, finishControl_engine, List.filter_cons, decide_eq_true_eq]
    split <;> rfl
  have hbusy : (finishControl q rest r).busyTags l = r.state.busyTags l := rfl
  unfold State.account
  rw [hport, hasked, hbusy]
  split
  · next hlink =>
    subst hlink
    refine ⟨rfl, fun _ => id, .refl _, ⟨?_, rfl, rfl⟩, rfl⟩
    refine List.perm_iff_count.2 fun t => ?_
    simp only [LinkPort.account, List.map_append, List.map_cons, List.map_nil, List.count_append]
    omega
  · exact .refl _

theorem takeControl_creditStep {op : CtlOp} {act : CtlRequest → State → CtlDone} {s t : State}
    (hact : ∀ q, s.SameFlow (act q s).state) (h : takeControl op act s = .next t) : s.CreditStep t := by
  obtain rfl | ⟨q, rest, hq, -, -, rfl⟩ := takeControl_cases h
  · exact .refl _
  · have hdone := hact q
    exact (hdone.sameAccounts.trans (finishControl_sameAccounts (act q s) (hdone.inband.trans hq))).creditStep

theorem State.targetOffline_sameAccounts (x : TargetId) (s : State) : s.SameAccounts (s.targetOffline x) :=
  .trans (s.endAll_sameAccounts (s.entriesTo x Entry.isWaiting)) (.of_tables rfl rfl rfl)

theorem State.targetReturn_sameAccounts (x : TargetId) (s : State) : s.SameAccounts (s.targetReturn x) :=
  .trans (s.endAll_sameAccounts (s.entriesTo x Entry.isIssued)) (.of_tables rfl rfl rfl)

theorem targetSetAct_creditStep (a : Args) (s : State) : s.CreditStep (targetSetAct a s).state := by
  unfold targetSetAct Done.checked
  split
  · exact .refl s
  · unfold targetSetEffect
    dsimp only
    split
    · exact .refl s
    · exact .refl s
    · exact (s.targetOffline_sameAccounts _).creditStep
    · exact (s.targetReturn_sameAccounts _).creditStep

theorem State.linkDisable_creditStep (l : LinkId) (s : State) : s.CreditStep (s.linkDisable l) := by
  unfold State.linkDisable
  split
  · exact .refl s
  · exact .leaves (by simp [State.enterDisabled, State.port_modPort])
      ((s.leaveUp_otherAccounts l).trans (State.setPort_otherAccounts l _ ((s.leaveUp l).send l .linkReset)))
      (s.inband_leaveUp_length l)
  all_goals exact s.enterDisabled_creditStep l

theorem linkSetAct_creditStep (a : Args) (s : State) : s.CreditStep (linkSetAct a s).state := by
  unfold linkSetAct Done.checked
  split
  · exact .refl s
  · exact .ite (fun _ => .ite (fun _ => s.enterDown_creditStep _) fun _ => .refl s) fun _ =>
      .ite (fun _ => s.linkDisable_creditStep _) fun _ =>
        .ite (fun _ => s.partReset_creditStep _) fun _ => .refl s

end Sys2Proof.Machine
end

section
/-! CERTIFICATES. What every event and every step does to the credits; and so the data credit law and the control credit
law, which every step keeps. -/

namespace Sys2Proof.Machine

/-! ## An examination (R88, R89, R90) -/

/-- One more data request stands in the part: queued, in the tracker, or with a reply handed (R163). -/
structure LinkAccount.Adds (tag : PeerTag) (a b : LinkAccount) : Prop where
  state : b.state = a.state
  outstanding : b.data.outstanding.Perm (tag :: a.data.outstanding)
  unreplied : b.data.unreplied = a.data.unreplied
  credits : b.data.credits = a.data.credits
  ctl : b.ctl = a.ctl
  notice : b.notice = a.notice

/-- A request taken from one place and put in another stays outstanding. -/
theorem LinkAccount.Same.of_adds {tag : PeerTag} {a b c : LinkAccount} (hb : a.Adds tag b) (hc : a.Adds tag c)
    (hingress : ∀ q ∈ c.ingress, q ∈ b.ingress) : b.Same c where
  state := hc.state.trans hb.state.symm
  ingress := hingress
  data := ⟨hc.outstanding.trans hb.outstanding.symm, hc.unreplied.trans hb.unreplied.symm,
    hc.credits.trans hb.credits.symm⟩
  ctl := hc.ctl ▸ hb.ctl ▸ .refl _
  notice := hc.notice.trans hb.notice.symm

theorem State.popped_adds {l : LinkId} {q : Request} {rest : List Request} {s : State}
    (hq : (s.port l).ingress = q :: rest) :
    ((s.modPort l fun p => { p with ingress := rest }).account l).Adds q.tag (s.account l) := by
  rw [State.modPort, State.account_setPort_same]
  refine ⟨rfl, ?_, rfl, rfl, rfl, rfl⟩
  simp [State.account, LinkPort.account, hq]

theorem State.handData_adds (l : LinkId) (r : DataReply) (s : State) :
    (s.account l).Adds r.tag ((s.handData l r).account l) := by
  rw [State.handData, State.modPort, State.account_setPort_same]
  refine ⟨rfl, List.perm_iff_count.2 fun t => ?_, rfl, rfl, rfl, rfl⟩
  simp only [State.account, LinkPort.account, List.map_append, List.map_cons, List.map_nil, List.count_append,
    List.count_cons, List.count_nil]
  omega

theorem State.enterTracker_adds {l : LinkId} {e : EntryNo} {s : State} (r : EntryReq) (hfree : s.entry l e = .free) :
    (s.account l).Adds r.tag ((s.enterTracker l e r).account l) := by
  have hbusy : ((s.enterTracker l e r).busyTags l).Perm (r.tag :: s.busyTags l) :=
    State.busyTags_perm hfree (by rw [State.entry_enterTracker, if_pos ⟨rfl, rfl⟩]; rfl)
      fun f hf => by rw [State.entry_enterTracker, if_neg fun h => hf h.2.symm]
  refine ⟨rfl, ?_, rfl, rfl, rfl, rfl⟩
  exact (hbusy.append_left _).trans List.perm_middle

theorem State.enterTracker_otherAccounts (l : LinkId) (e : EntryNo) (r : EntryReq) (s : State) :
    s.OtherAccounts l (s.enterTracker l e r) := by
  intro m hlm
  have hbusy : (s.enterTracker l e r).busyTags m = s.busyTags m :=
    State.busyTags_of_eq fun f => by rw [State.entry_enterTracker, if_neg fun h => hlm h.1]
  unfold State.account
  rw [hbusy]
  rfl

/-- The request at the head of the ingress queue stays outstanding: with a reply handed, or in the tracker. -/
theorem State.examine_sameAccounts {l : LinkId} {e : EntryNo} {q : Request} {rest : List Request} {s : State}
    (hq : (s.port l).ingress = q :: rest) (hfree : s.entry l e = .free) : s.SameAccounts (s.examine l e q rest) := by
  have hpop := State.popped_adds hq
  have hflow := State.resolutionChanges_sameFlow q (s.ruling q) (s.modPort l fun p => { p with ingress := rest })
  unfold State.examine
  dsimp only
  generalize (s.modPort l fun p => { p with ingress := rest }).resolutionChanges q (s.ruling q) = t at hflow ⊢
  rw [← hflow.account] at hpop
  have hplaced : ∀ u, (t.account l).Adds q.tag (u.account l) → t.OtherAccounts l u →
      (u.account l).ingress = (t.account l).ingress → u.engine = t.engine → s.SameAccounts u := by
    intro u hadds hothers hingress hengine
    refine ⟨fun m => ?_, by rw [hengine, hflow.inband]; exact le_rfl⟩
    by_cases hlm : l = m
    · subst hlm
      refine .of_adds hpop hadds fun x hx => ?_
      rw [hingress, hflow.account, State.modPort, State.account_setPort_same] at hx
      change x ∈ (s.port l).ingress
      rw [hq]
      exact .tail _ hx
    · rw [hothers m hlm, hflow.account, State.modPort, State.account_setPort, if_neg hlm]
      exact .refl _
  have hhanded : ∀ answer, s.SameAccounts (t.handData l ⟨q.tag, q.stream, answer⟩) := fun answer =>
    hplaced _ (State.handData_adds l ⟨q.tag, q.stream, answer⟩ t) (State.setPort_otherAccounts l _ t)
      (by rw [State.handData, State.modPort, State.account_setPort_same]; rfl) rfl
  split
  · exact hhanded _
  · exact hhanded _
  · next hout =>
    obtain ⟨d, i, hr⟩ := Ruling.outcome_eq_admitted hout
    have hfree' : t.entry l e = .free := by
      rw [State.entry_eq, hflow.entries]
      exact hfree
    rw [hr]
    exact hplaced _ (State.enterTracker_adds (s.admitted q i) hfree') (t.enterTracker_otherAccounts l e _) rfl rfl

theorem execExamination_creditStep {l : LinkId} {s t : State} (h : execExamination l s = .next t) : s.CreditStep t := by
  unfold execExamination at h
  split at h
  · next q rest e hq he =>
    split at h
    · cases h
      exact (State.examine_sameAccounts hq (State.freeEntry_isFree he)).creditStep
    · cases h
      exact .refl s
  · cases h
    exact .refl s

/-! ## The fabric side -/

/-- A granted entry carries the request it waited with (R94). -/
theorem State.grantTag_sameAccounts {l : LinkId} {e : EntryNo} {r : EntryReq} {g : TagNo} {s : State}
    (hentry : s.entry l e = .waitTag r) : s.SameAccounts (s.grantTag l e r g) := by
  refine ⟨fun m => .of_eq ?_, le_rfl⟩
  have hbusy : (s.grantTag l e r g).busyTags m = s.busyTags m := by
    refine List.filterMap_congr fun f _ => ?_
    rw [State.entry_grantTag]
    split
    · next hle =>
      obtain ⟨rfl, rfl⟩ := hle
      rw [hentry]
      rfl
    · rfl
  unfold State.account
  rw [hbusy]
  rfl

theorem execGrant_creditStep {s t : State} (h : execGrant s = .next t) : s.CreditStep t := by
  unfold execGrant at h
  split at h
  · split at h
    · cases h
      exact .refl s
    · split at h
      · next r hr =>
        cases h
        exact (State.grantTag_sameAccounts hr).creditStep
      all_goals
        cases h
        exact .refl s
  · cases h
    exact .refl s

theorem execCompletion_creditStep {tag : Nat} {st : CompletionStatus} {data : List Byte} {s t : State}
    (h : execCompletion tag st data s = .next t) : s.CreditStep t := by
  unfold execCompletion at h
  split at h
  · split at h
    · cases h
      exact State.SameAccounts.creditStep (.of_tables rfl rfl rfl)
    · cases h
      exact State.SameAccounts.creditStep (.of_tables rfl rfl rfl)
    · cases h
      exact (s.endWithReply_sameAccounts ..).creditStep
  · cases h
    exact State.SameAccounts.creditStep (.of_tables rfl rfl rfl)

theorem execDeadlineExpiry_creditStep {l : LinkId} {e : EntryNo} {s t : State}
    (h : execDeadlineExpiry l e s = .next t) : s.CreditStep t := by
  unfold execDeadlineExpiry at h
  split at h
  · next r g dl _ =>
    cases h
    have hreach : s.SameAccounts (s.reach dl) := .of_tables rfl rfl rfl
    have hended := hreach.trans (State.endWithReply_sameAccounts .quarantined (fun _ => .refused .timeout) l e _)
    exact hended.creditStep.then_same (.of_tables rfl rfl rfl rfl rfl)
  all_goals
    cases h
    exact .refl s

/-! ## Messages that arrive -/

/-- A data request that R164 accepts spends a credit, and its tag was not unreplied. -/
theorem dataCheck_eq_none {p : LinkPort} {tag : PeerTag} {stream : StreamNo} {addr : InAddr} {len : Nat}
    (h : dataCheck p tag stream addr len = none) : p.dataCredits ≠ 0 ∧ p.unrepliedTags[tag] = false := by
  unfold dataCheck at h
  split_ifs at h with _ _ _ hcredit htag
  exact ⟨hcredit, by simpa using htag⟩

theorem State.accept_creditStep {l : LinkId} {q : Request} {s : State} (hlink : q.link = l)
    (hcredit : (s.port l).dataCredits ≠ 0) (hfresh : (s.port l).unrepliedTags[q.tag] = false) :
    s.CreditStep (s.modPort l (LinkPort.accept q)) := by
  refine .setPort (.acceptsData (a := s.account l) hlink ⟨hcredit, hfresh, List.perm_iff_count.2 fun t => ?_, rfl, rfl⟩)
  simp only [State.account, LinkPort.account, LinkPort.accept, List.map_append, List.map_cons, List.map_nil,
    List.count_append, List.count_cons, List.count_nil]
  omega

theorem State.dataArrives_creditStep (l : LinkId) (kind : ReqKind) (tag : PeerTag) (stream : StreamNo) (addr : InAddr)
    (len : Nat) (data : Option (List Byte)) (s : State) :
    s.CreditStep (s.dataArrives l kind tag stream addr len data) := by
  refine .ite (fun _ => ?_) fun _ => .refl s
  split
  · next hcheck _ =>
    obtain ⟨hcredit, hfresh⟩ := dataCheck_eq_none hcheck
    exact State.accept_creditStep rfl hcredit hfresh
  · exact s.protocolError_creditStep l _
  · exact s.protocolError_creditStep l _

/-- A control request that the port itself answers, written as one change of the port (R142, R143). -/
theorem State.handCtl_modPort (l : LinkId) (f : LinkPort → LinkPort) (r : CtlReply) (s : State) :
    (s.modPort l f).handCtl l r =
      s.setPort l { f (s.port l) with outCtl := (f (s.port l)).outCtl ++ [r] } :=
  State.modPort_setPort l (f (s.port l)) (fun p => { p with outCtl := p.outCtl ++ [r] }) s

/-- A control request that joins the in-band queue adds its tag to those of its link's queued requests (R142). -/
theorem State.askedTags_append {s t : State} {q : CtlRequest} (h : t.engine.inband = s.engine.inband ++ [q])
    (l : LinkId) : t.askedTags l = s.askedTags l ++ if q.link = l then [q.tag] else [] := by
  simp only [State.askedTags, h, List.filter_append, List.map_append, List.filter_cons, List.filter_nil,
    decide_eq_true_eq]
  split <;> rfl

/-- An accepted control request that joins the in-band queue (R141, R142). -/
theorem State.enqueue_creditStep {s : State} {q : CtlRequest} (hcredit : (s.port q.link).ctlCredits ≠ 0)
    (hfresh : (s.port q.link).unrepliedCtl[q.tag] = false) (hroom : s.engine.inband.length < 6) :
    s.CreditStep ((s.modPort q.link (LinkPort.acceptCtl q.tag)).setEngine
      { s.engine with inband := s.engine.inband ++ [q] }) := by
  generalize hu : (s.modPort q.link (LinkPort.acceptCtl q.tag)).setEngine
    { s.engine with inband := s.engine.inband ++ [q] } = u
  have hinband : u.engine.inband = s.engine.inband ++ [q] := hu ▸ rfl
  have hport : ∀ m, u.port m = if q.link = m then (s.port q.link).acceptCtl q.tag else s.port m :=
    fun m => hu ▸ State.port_modPort q.link m _ s
  have hbusy : ∀ m, u.busyTags m = s.busyTags m := fun m => hu ▸ rfl
  have hasked := State.askedTags_append hinband
  refine .on_link (l := q.link) ?_ (fun m hlm => ?_) fun _ => by simpa [hinband] using hroom
  · unfold State.account
    rw [hport, hbusy, hasked, if_pos rfl, if_pos rfl]
    refine .acceptsCtl (tag := q.tag) ⟨hcredit, hfresh, List.perm_iff_count.2 fun t => ?_, rfl, rfl⟩
    simp only [LinkPort.account, LinkPort.acceptCtl, List.count_append, List.count_cons, List.count_nil]
    omega
  · unfold State.account
    rw [hport, hbusy, hasked, if_neg hlm, if_neg hlm, List.append_nil]

/-- An accepted control request is outstanding in the in-band queue, or with a reply that the port itself hands (R141,
R142, R143). -/
theorem State.ctlArrives_creditStep (l : LinkId) (tag : CtlTag) (byte2 op : Byte) (body : List Byte) (s : State) :
    s.CreditStep (s.ctlArrives l tag byte2 op body) := by
  unfold State.ctlArrives
  refine .ite (fun _ => s.protocolError_creditStep l _) fun hcredit =>
    .ite (fun _ => s.protocolError_creditStep l _) fun hfresh => ?_
  have hfresh' : (s.port l).unrepliedCtl[tag] = false := by simpa using hfresh
  have hanswered : ∀ code, s.CreditStep
      ((s.modPort l (LinkPort.acceptCtl tag)).handCtl l ⟨tag, byte2, code, []⟩) := fun code => by
    rw [State.handCtl_modPort]
    refine .setPort (.acceptsCtl (a := s.account l) (tag := tag)
      ⟨hcredit, hfresh', List.perm_iff_count.2 fun t => ?_, rfl, rfl⟩)
    simp only [State.account, LinkPort.account, LinkPort.acceptCtl, List.map_append, List.map_cons, List.map_nil,
      List.count_append, List.count_cons, List.count_nil]
    omega
  split
  · exact hanswered _
  · next o _ =>
    refine .ite (fun _ => hanswered _) fun _ => .ite (fun _ => ?_) fun hroom => ?_
    · exact (hanswered _).then_same (.of_tables rfl rfl rfl rfl rfl)
    · exact State.enqueue_creditStep (q := ⟨l, tag, byte2, o, body⟩) hcredit hfresh' (not_le.1 hroom)

/-! ## The other messages, the signal and the timers -/

theorem execNoticeAck_creditStep {l : LinkId} {s t : State} (h : execNoticeAck l s = .next t) : s.CreditStep t := by
  cases h
  refine .ite (fun _ => ?_) fun _ => .refl s
  split
  · exact .setPort (.notice (a := s.account l) (c := .held) (by simp))
  · exact s.protocolError_creditStep l _
  · exact .refl s

/-- A quiet link enters UP with nothing outstanding and all credits (R161). -/
theorem execHello_creditStep {l : LinkId} {s t : State} (hquiet : linksQuietUnlessUp s)
    (h : execHello l s = .next t) : s.CreditStep t := by
  cases h
  refine .ite (fun htrain => ?_) fun _ => .refl s
  obtain ⟨hin, hdata, hctl, -, -, -, -, -, hfree, -, hqueue⟩ := hquiet l (by simp [htrain])
  have hbusy : s.busyTags l = [] := List.filterMap_eq_nil_iff.2 fun e _ => by simp [hfree e, Entry.request?]
  have hasked : s.askedTags l = [] := by simpa [State.askedTags] using hqueue
  refine State.CreditStep.then_same (.setPort ?_) (.of_tables rfl rfl rfl rfl rfl)
  refine .comesUp hin ?_ ?_ rfl
  · simp [LinkPort.account, LinkPort.comeUp, Ledger.opened, hin, hdata, hbusy, Config.dataCredits]
  · simp [LinkPort.account, LinkPort.comeUp, Ledger.opened, hctl, hasked, Config.ctlCredits]

theorem execLinkReset_creditStep {l : LinkId} {s t : State} (h : execLinkReset l s = .next t) : s.CreditStep t := by
  cases h
  split
  · exact .leaves (State.enterTraining_not_up l _)
      ((s.leaveUp_otherAccounts l).trans (State.enterTraining_otherAccounts l ((s.leaveUp l).send l .linkReset)))
      (s.inband_leaveUp_length l)
  · exact s.enterTraining_creditStep l
  all_goals exact .refl s

/-- What a line shows, and a link's timers, are not its credits. -/
theorem State.setPort_line_creditStep {l : LinkId} {p : LinkPort} {s : State}
    (h : p.account (s.busyTags l) (s.askedTags l) = s.account l) : s.CreditStep (s.setPort l p) :=
  .setPort (.same (.of_eq h))

/-- A message leaves a link whose port changes with it. -/
theorem State.CreditStep.sends {s : State} {l : LinkId} {p : LinkPort} (m : LinkMessage)
    (h : (s.account l).Move l (p.account (s.busyTags l) (s.askedTags l))) :
    s.CreditStep ((s.setPort l p).send l m) :=
  (State.CreditStep.setPort h).then_same (.of_tables rfl rfl rfl rfl rfl)

theorem execSignalDetection_creditStep {l : LinkId} {s t : State} (h : execSignalDetection l s = .next t) :
    s.CreditStep t := by
  cases h
  refine .ite (fun _ => ?_) fun _ => State.setPort_line_creditStep rfl
  exact .leaves (State.enterTraining_not_up l _)
    ((s.setPort_otherAccounts l _).trans (State.enterTraining_otherAccounts l _)) le_rfl

theorem execSignalLoss_creditStep {l : LinkId} {s t : State} (h : execSignalLoss l s = .next t) : s.CreditStep t := by
  cases h
  have hrecords : s.OtherAccounts l (s.modPort l fun p => { p with signal := false }) := s.setPort_otherAccounts l _
  have hdown : s.CreditStep ((s.modPort l fun p => { p with signal := false }).enterDown l) :=
    .leaves (State.enterDown_not_up l _) (hrecords.trans (State.enterDown_otherAccounts l _)) (by simp)
  split
  · exact State.setPort_line_creditStep rfl
  · exact State.setPort_line_creditStep rfl
  · exact hdown
  · refine .leaves (State.enterDown_not_up l _)
      ((hrecords.trans (State.leaveUp_otherAccounts l _)).trans (State.enterDown_otherAccounts l _)) ?_
    rw [State.enterDown_engine]
    exact State.inband_leaveUp_length l _
  · exact hdown

theorem execHelloTimerExpiry_creditStep {l : LinkId} {s t : State} (h : execHelloTimerExpiry l s = .next t) :
    s.CreditStep t := by
  cases h
  split
  · next u _ _ =>
    have hreach : s.SameFlow (s.reach u) := .of_tables rfl rfl rfl rfl rfl
    exact hreach.then_step (.sends _ (.same (.of_eq rfl)))
  · exact .refl s

theorem execHandshakeTimerExpiry_creditStep {l : LinkId} {s t : State} (h : execHandshakeTimerExpiry l s = .next t) :
    s.CreditStep t := by
  cases h
  split
  · next u _ _ =>
    have hreach : s.SameFlow (s.reach u) := .of_tables rfl rfl rfl rfl rfl
    exact hreach.then_step (State.enterTraining_creditStep l _)
  · exact .refl s

/-! ## Sending -/

theorem execNotice_creditStep {l : LinkId} {s t : State} (h : execNotice l s = .next t) : s.CreditStep t := by
  cases h
  refine .ite (fun _ => ?_) fun _ => .refl s
  exact .sends _ (.notice (a := s.account l) (c := .outstanding) (by simp))

/-- What is taken from a list satisfies the condition, and with the rest makes up the list. -/
theorem takeFirst_eq_some {α : Type} {p : α → Bool} {xs rest : List α} {x : α} (h : takeFirst p xs = some (x, rest)) :
    p x = true ∧ xs.Perm (x :: rest) := by
  induction xs generalizing rest with
  | nil => cases h
  | cons y ys ih =>
    unfold takeFirst at h
    split at h
    · next hy =>
      cases h
      exact ⟨hy, .refl _⟩
    · split at h
      · cases h
      · next z zs hz =>
        cases h
        obtain ⟨hx, hperm⟩ := ih hz
        exact ⟨hx, (hperm.cons y).trans (.swap ..)⟩

theorem execSendDataReply_creditStep {l : LinkId} {tag : PeerTag} {s t : State}
    (h : execSendDataReply l tag s = .next t) : s.CreditStep t := by
  cases h
  refine .ite (fun _ => ?_) fun _ => .refl s
  split
  · exact .refl s
  · next r rest htake =>
    obtain ⟨htag, hperm⟩ := takeFirst_eq_some htake
    obtain rfl : r.tag = tag := of_decide_eq_true htag
    refine .sends _ (.repliesData (a := s.account l) (tag := r.tag) ⟨?_, rfl, rfl⟩)
    exact (((hperm.map (·.tag)).append_left _).append_right _).trans (List.perm_middle.append_right _)

theorem execSendCtlReply_creditStep {l : LinkId} {tag : CtlTag} {s t : State} (h : execSendCtlReply l tag s = .next t) :
    s.CreditStep t := by
  cases h
  refine .ite (fun _ => ?_) fun _ => .refl s
  split
  · exact .refl s
  · next r rest htake =>
    obtain ⟨htag, hperm⟩ := takeFirst_eq_some htake
    obtain rfl : r.tag = tag := of_decide_eq_true htag
    refine .sends _ (.repliesCtl (a := s.account l) (tag := r.tag) ⟨?_, rfl, rfl⟩)
    exact ((hperm.map (·.tag)).append_left _).trans List.perm_middle

/-! ## Resets and register writes -/

/-- After a reset of the part no link is UP, and the in-band queue is empty (R137, R174). -/
theorem State.restartLinks_creditStep (wasUp : LinkId → Bool) {s u : State} (h : u.engine.inband = []) :
    s.CreditStep (u.restartLinks wasUp) := by
  refine ⟨fun l => .leaves ?_, fun _ => ?_⟩
  · have hport : (u.restartLinks wasUp).port l = LinkPort.restarted (u.port l).signal u.now := by
      simp [State.restartLinks_eq, State.port_eq]
    rw [State.account_state, hport]
    cases (u.port l).signal <;> simp [LinkPort.restarted, LinkPort.initial]
  · simp [State.restartLinks_eq, h]

theorem State.deviceReset_creditStep (s : State) : s.CreditStep s.deviceReset := State.restartLinks_creditStep _ rfl

theorem State.writeRegister_creditStep (r : Register) (value : Word) (s : State) :
    s.CreditStep (s.writeRegister r value) := by
  cases r with
  | deviceControl => exact .ite (fun _ => s.deviceReset_creditStep) fun _ => .refl s
  | cmdIssue => exact (s.writeCmdIssue_sameFlow value).creditStep
  | unboundSet l => exact (s.removeUnbound_sameFlow l value).creditStep
  | cmdArg | eventLatch | eventEnable | summaryEnable =>
    exact State.SameFlow.creditStep (.of_tables rfl rfl rfl rfl rfl)
  | identification | cmdStatus | cmdResult | linkState | targetState0 | targetState1 | tagStatus | summary
  | unassigned =>
    exact .refl s

/-! ## The credits over an event and a step -/

/-- A command that leaves the transactions in flight leaves the credits. -/
theorem takeCommand_sameCredits {mine : BitVec 8 → Bool} {act : Args → State → Done} {s t : State}
    (hact : ∀ (a : Args) (s : State), s.SameFlow (act a s).state) (h : takeCommand mine act s = .next t) :
    s.CreditStep t :=
  takeCommand_creditStep (fun a => (hact a s).creditStep) h

/-- What every event does to the credits, in a state with quiet links. -/
theorem exec_creditStep {c : Instr} {s t : State} (hquiet : linksQuietUnlessUp s) (h : exec c s = .next t) :
    s.CreditStep t := by
  cases c with
  | install => exact takeCommand_sameCredits installAct_sameFlow h
  | replace => exact takeCommand_sameCredits replaceAct_sameFlow h
  | retire => exact takeCommand_sameCredits retireAct_sameFlow h
  | suspend => exact takeCommand_sameCredits suspendAct_sameFlow h
  | resume => exact takeCommand_sameCredits resumeAct_sameFlow h
  | setBudget => exact takeCommand_sameCredits setBudgetAct_sameFlow h
  | readWindow => exact takeCommand_sameCredits readWindowAct_sameFlow h
  | domainOpen => exact takeCommand_sameCredits domainOpenAct_sameFlow h
  | domainSet => exact takeCommand_sameCredits domainSetAct_sameFlow h
  | setFence => exact takeCommand_sameCredits setFenceAct_sameFlow h
  | freeze => exact takeCommand_sameCredits (domainChange_sameFlow freezeCheck _) h
  | thaw => exact takeCommand_sameCredits (domainChange_sameFlow thawCheck _) h
  | halt => exact takeCommand_sameCredits (domainChange_sameFlow haltCheck _) h
  | release => exact takeCommand_sameCredits (domainChange_sameFlow releaseCheck _) h
  | purge => exact takeCommand_sameCredits purgeAct_sameFlow h
  | readDomain => exact takeCommand_sameCredits readDomainAct_sameFlow h
  | readChain => exact takeCommand_sameCredits readChainAct_sameFlow h
  | bind => exact takeCommand_sameCredits bindAct_sameFlow h
  | unbind => exact takeCommand_sameCredits unbindAct_sameFlow h
  | streamSet => exact takeCommand_sameCredits streamSetAct_sameFlow h
  | setTimeout => exact takeCommand_sameCredits setTimeoutAct_sameFlow h
  | probe => exact takeCommand_sameCredits probeAct_sameFlow h
  | badCommand => exact takeCommand_sameCredits (fun _ s => .refl s) h
  | targetSet => exact takeCommand_creditStep (fun a => targetSetAct_creditStep a s) h
  | linkSet => exact takeCommand_creditStep (fun a => linkSetAct_creditStep a s) h
  | openWindow => exact takeControl_creditStep (fun q => openAct_sameFlow q s) h
  | closeWindow => exact takeControl_creditStep (fun q => closeAct_sameFlow q s) h
  | narrow => exact takeControl_creditStep (fun q => narrowAct_sameFlow q s) h
  | status => exact takeControl_creditStep (fun q => statusAct_sameFlow q s) h
  | ctl l tag byte2 op body =>
    cases h
    exact .ite (fun _ => s.ctlArrives_creditStep l tag byte2 op body) fun _ => .refl s
  | wr | rd | rds =>
    cases h
    exact s.dataArrives_creditStep ..
  | noticeAck => exact execNoticeAck_creditStep h
  | hello => exact execHello_creditStep hquiet h
  | linkReset => exact execLinkReset_creditStep h
  | unknownKind l =>
    cases h
    exact .ite (fun _ => s.protocolError_creditStep l _) fun _ => .refl s
  | signalDetection => exact execSignalDetection_creditStep h
  | signalLoss => exact execSignalLoss_creditStep h
  | helloTimerExpiry => exact execHelloTimerExpiry_creditStep h
  | handshakeTimerExpiry => exact execHandshakeTimerExpiry_creditStep h
  | examination => exact execExamination_creditStep h
  | grant => exact execGrant_creditStep h
  | completion => exact execCompletion_creditStep h
  | deadlineExpiry => exact execDeadlineExpiry_creditStep h
  | notice => exact execNotice_creditStep h
  | sendDataReply => exact execSendDataReply_creditStep h
  | sendCtlReply => exact execSendCtlReply_creditStep h
  | powerOnReset =>
    cases h
    exact State.restartLinks_creditStep _ rfl
  | deviceReset =>
    cases h
    exact s.deviceReset_creditStep
  | cmdIssue value =>
    cases h
    exact (s.writeCmdIssue_sameFlow value).creditStep
  | unboundSetRemove l value =>
    cases h
    exact (s.removeUnbound_sameFlow l value).creditStep
  | registerWrite =>
    cases h
    exact s.writeRegister_creditStep ..
  | eventClear | eventEnableWrite | summaryEnableWrite =>
    cases h
    exact State.SameFlow.creditStep (.of_tables rfl rfl rfl rfl rfl)

/-- What every step does to the credits, in a state with quiet links. -/
theorem step_creditStep {s t : State} (hquiet : linksQuietUnlessUp s) (h : step s = .next t) : s.CreditStep t := by
  unfold step at h
  split at h
  · next c rest _ =>
    have hpop : s.SameFlow { s with pending := rest } := .of_tables rfl rfl rfl rfl rfl
    exact hpop.then_step (exec_creditStep hquiet h)
  · unfold idleStep at h
    split at h
    · exact exec_creditStep hquiet h
    · cases h
      exact State.SameFlow.creditStep (.of_tables rfl rfl rfl rfl rfl)

/-- Settles O59: the laws read the accounts of the links and the length of the in-band queue, and every step makes at most
one move at each account. -/
theorem creditLawsKeptByStep : Obligations.CreditLawsKeptByStep := by
  refine ⟨fun s t hquiet hs hstep => ?data, fun s t hquiet hs hstep => ?ctl⟩
  case data =>
    rw [dataCreditLaw_iff] at hs ⊢
    exact fun l => ((step_creditStep hquiet hstep).accounts l).keeps_dataSound (hs l)
  case ctl =>
    obtain ⟨hroom, hsound⟩ := (ctlCreditLaw_iff s).1 hs
    obtain ⟨hmoves, hqueue⟩ := step_creditStep hquiet hstep
    exact (ctlCreditLaw_iff t).2 ⟨hqueue hroom, fun l => (hmoves l).keeps_ctlSound (hsound l)⟩

end Sys2Proof.Machine
end

section
/-! CERTIFICATES. Bus writes (R128, R175, R176, R178): CMD_ISSUE, and what a write does at the register of each offset; and
that every step answers a next state. -/

namespace Sys2Proof.Machine

open Sys2Proof.Spec

/-- Settles O3: each event answers a next state, and so does the passing of a microsecond. -/
theorem everyStepGoesOn : Obligations.EveryStepGoesOn := by
  intro s
  unfold stepGoesOn step
  split
  · exact exec_next _ _
  · unfold idleStep
    split
    · exact exec_next _ _
    · exact ⟨_, rfl⟩

/-! ## CMD_ISSUE (R129, R130) -/

theorem State.writeCmdIssue_empty {s : State} (h : s.engine.slot = none) (value : Word) : s.writeCmdIssue value =
    { s with
      engine := { s.engine with slot := some ⟨value.extractLsb' 0 8, value.extractLsb' 8 8, s.mgmt.staging⟩ }
      mgmt := { s.mgmt with status := .busy, seq := value.extractLsb' 8 8 } } := by
  simp only [State.writeCmdIssue, h]
  rfl

theorem State.writeCmdIssue_full {s : State} (h : s.engine.slot ≠ none) (value : Word) :
    s.writeCmdIssue value = s.raiseDev .cmdOverrun := by
  obtain ⟨c, hc⟩ := Option.ne_none_iff_exists'.1 h
  simp only [State.writeCmdIssue, hc]

/-- Settles O8: the slot alone selects the case. -/
theorem cmdIssueFillsSlotOrOverruns : Obligations.CmdIssueFillsSlotOrOverruns := fun _ v =>
  ⟨fun hempty => congrArg _ (State.writeCmdIssue_empty hempty v),
    fun hfull => congrArg _ (State.writeCmdIssue_full hfull v)⟩

/-! ## The registers that ignore writes (R176) -/

/-- The read-only registers and the unassigned words. -/
def ignoresWrites : Register → Bool
  | .identification | .cmdStatus | .cmdResult _ | .linkState _ | .targetState0 | .targetState1 | .tagStatus
  | .summary | .unassigned => true
  | .deviceControl | .cmdIssue | .cmdArg _ | .unboundSet _ | .eventLatch _ | .eventEnable _ | .summaryEnable => false

theorem State.writeRegister_ignored {r : Register} (h : ignoresWrites r = true) (value : Word) (s : State) :
    s.writeRegister r value = s := by
  cases r with
  | identification | cmdStatus | cmdResult | linkState | targetState0 | targetState1 | tagStatus | summary
  | unassigned =>
    rfl
  | deviceControl | cmdIssue | cmdArg | unboundSet | eventLatch | eventEnable | summaryEnable => cases h

/-- The offsets outside the groups of registers that a write acts on (R194). -/
def ignoredOffset (o : Nat) : Prop :=
  o < 0x004 ∨ (0x008 ≤ o ∧ o < 0x010) ∨ (0x014 ≤ o ∧ o < 0x040) ∨ (0x070 ≤ o ∧ o < 0x140) ∨
    (0x150 ≤ o ∧ o < 0x200) ∨ (0x208 ≤ o ∧ o < 0x210) ∨ (0x230 ≤ o ∧ o < 0x240) ∨ o = 0x2C0 ∨ 0x2C8 ≤ o

theorem ignoresWrites_ite {p : Prop} [Decidable p] {r r' : Register} (h : p → ignoresWrites r = true)
    (h' : ignoresWrites r' = true) : ignoresWrites (if p then r else r') = true := by
  split
  · next hp => exact h hp
  · exact h'

/-- Each offset of a register that a write acts on lies outside, in the order of the registers. -/
theorem registerAt_ignoresWrites {off : BitVec 12} (h : ignoredOffset off.toNat) :
    ignoresWrites (registerAt off) = true := by
  unfold ignoredOffset at h
  unfold registerAt
  dsimp only
  generalize off.toNat = o at h ⊢
  iterate 2 refine ignoresWrites_ite (fun _ => rfl) ?_
  iterate 2 refine ignoresWrites_ite (fun _ => by omega) ?_
  refine ignoresWrites_ite (fun _ => rfl) ?_
  refine ignoresWrites_ite (fun _ => by omega) ?_
  iterate 5 refine ignoresWrites_ite (fun _ => rfl) ?_
  iterate 7 refine ignoresWrites_ite (fun _ => by omega) ?_
  refine ignoresWrites_ite (fun _ => rfl) ?_
  refine ignoresWrites_ite (fun _ => by omega) ?_
  rfl

/-! ## A write at an offset (R175) -/

theorem exec_registerWrite_word {off : BitVec 12} {r : Register} (h : registerAt off = r) (value : Word) (s : State) :
    exec (.registerWrite off .word value) s = .next (s.writeRegister r value) := by
  rw [← h]
  rfl

/-- A write to a word that a number names. -/
theorem exec_registerWrite_offset {off : BitVec 12} {n : Nat} {r : Register} (hn : off.toNat = n)
    (h : registerAt (BitVec.ofNat 12 n) = r) (value : Word) (s : State) :
    exec (.registerWrite off .word value) s = .next (s.writeRegister r value) :=
  exec_registerWrite_word (by rw [← h, ← hn, BitVec.ofNat_toNat, BitVec.setWidth_eq]) value s

/-- Settles O9: the offset names the register, and the write acts as the register does. -/
theorem registerWriteActsByGroup : Obligations.RegisterWriteActsByGroup := by
  intro s off v
  refine ⟨rfl, rfl, fun h => exec_registerWrite_word (registerAt_unaligned h) v s, fun i h => ?_, fun h => ?_,
    fun h => ?_, fun l h => ?_, fun h => ?_, fun h => ?_, fun l h => ?_, fun l h => ?_, fun d h => ?_, fun d h => ?_,
    fun h => ?_, fun h => ?_⟩
  · exact exec_registerWrite_offset h (registerAt_cmdArg i) v s
  · rw [exec_registerWrite_offset (r := .deviceControl) h rfl]
    exact apply_ite Host.Outcome.next _ _ _
  · exact exec_registerWrite_offset (r := .cmdIssue) h rfl v s
  · exact exec_registerWrite_offset h (registerAt_unboundSet l) v s
  · exact exec_registerWrite_offset (r := .eventLatch .device) h rfl v s
  · exact exec_registerWrite_offset (r := .eventEnable .device) h rfl v s
  · exact exec_registerWrite_offset h (registerAt_linkLatch l) v s
  · exact exec_registerWrite_offset h (registerAt_linkEnable l) v s
  · exact exec_registerWrite_offset h (registerAt_domLatch d) v s
  · exact exec_registerWrite_offset h (registerAt_domEnable d) v s
  · exact exec_registerWrite_offset (r := .summaryEnable) h rfl v s
  · rw [exec_registerWrite_word rfl, State.writeRegister_ignored (registerAt_ignoresWrites h)]

end Sys2Proof.Machine
end

section
/-! CERTIFICATES. Which source the Table Engine serves (R123, R124), and the codes it does not know (R134, R193). -/

namespace Sys2Proof.Machine

open Sys2Proof.Spec

/-- Each row of R192 is the taking of its code's command. -/
theorem exec_commandRow : ∀ rk ∈ commandRows, ∃ act, ∀ s, exec rk.1 s = takeCommand (codeIs rk.2) act s := by
  simp only [commandRows, List.cons_append, List.nil_append, List.forall_mem_cons]
  iterate 24 refine ⟨⟨_, fun _ => rfl⟩, ?_⟩
  exact List.forall_mem_nil _

/-- Each row of a control request is the taking of its operation. -/
theorem exec_controlRow : ∀ row ∈ controlRows, ∃ op act, ∀ s, exec row s = takeControl op act s := by
  simp only [controlRows, List.forall_mem_cons]
  exact ⟨⟨_, _, fun _ => rfl⟩, ⟨_, _, fun _ => rfl⟩, ⟨_, _, fun _ => rfl⟩, ⟨_, _, fun _ => rfl⟩, List.forall_mem_nil _⟩

theorem unknownCode_iff (c : BitVec 8) : unknownCode c = true ↔ c.toNat = 0 ∨ 0x18 < c.toNat := by
  simp [unknownCode]

/-- A row of which no command is served does not occur. -/
theorem takeCommand_idle_of_not_takes {mine : BitVec 8 → Bool} {act : Args → State → Done} {s : State}
    (h : ∀ c, mine c.code = true → ¬takes c.code.toNat c s) : takeCommand mine act s = .next s := by
  refine takeCommand_idle fun c hslot hserves => Bool.eq_false_iff.2 fun hmine => h c hmine ?_
  exact ⟨hslot, rfl, ((Engine.servesMgmt_iff _).1 hserves).2⟩

/-- Settles O14: the served source is the model's choice, and each row takes the command or request it stands for. -/
theorem engineServesTheOtherSource : Obligations.EngineServesTheOtherSource := by
  intro s
  refine ⟨Engine.servesMgmt_iff _, Engine.servesInband_iff _, fun rk hrk hno => ?idle, fun hno => ?noUnknown,
    fun c k ht hk => ?unknown, fun hno row hrow => ?noControl⟩
  case idle =>
    obtain ⟨act, hact⟩ := exec_commandRow rk hrk
    rw [hact]
    exact takeCommand_idle_of_not_takes fun c hc ht => hno ⟨c, (codeIs_eq_true _ _).1 hc ▸ ht⟩
  case noUnknown =>
    exact takeCommand_idle_of_not_takes fun c hc ht => hno ⟨c, _, ht, (unknownCode_iff _).1 hc⟩
  case unknown =>
    obtain ⟨hslot, rfl, hturn⟩ := ht
    exact (takeCommand_taken hslot ((unknownCode_iff _).2 hk) hturn).trans
      (congrArg _ (finishCommand_eq_commandDone c _))
  case noControl =>
    obtain ⟨op, act, hact⟩ := exec_controlRow row hrow
    rw [hact, takeControl_idle hno]

end Sys2Proof.Machine
end

section
/-! CERTIFICATES. PROBE (R138, R139): the checks in order, and the result words. -/

namespace Sys2Proof.Machine

open Sys2Proof.Spec

/-! ## The checks in order (R138) -/

section Checks

variable {a : Args} {l : LinkId} {st : DataStream} {k : ReqKind}

/-- The address of a request or the address of its last byte lies beyond the input space (R54). -/
abbrev probeRangeBad (a : Args) : Prop :=
  2 ^ 48 ≤ argPair a 2 3 ∨ 2 ^ 48 ≤ argPair a 2 3 + argField a 1 0 16 - 1

/-- The number of a kind in PROBE's kind field (R192). -/
abbrev kindNumbered (k : ReqKind) (n : Nat) : Prop :=
  (k = .wr ∧ n = 0) ∨ (k = .rd ∧ n = 1) ∨ (k = .rds ∧ n = 2)

theorem ReqKind.ofNat?_numbered {n : Nat} (h : kindNumbered k n) : ReqKind.ofNat? n = some k := by
  rcases h with ⟨rfl, rfl⟩ | ⟨rfl, rfl⟩ | ⟨rfl, rfl⟩ <;> rfl

theorem probeCheck_noStream (hl : argField a 0 0 8 ≤ 3) (hst : argField a 0 8 8 = 0 ∨ 15 < argField a 0 8 8)
    (s : State) : probeCheck a s = some .badStream := by
  simp only [probeCheck, argLinkNo, argStreamNo, if_neg (not_lt.2 hl), (streamOf?_eq_none _).2 hst, if_true]

/-- The checks of PROBE behind the link and the stream. -/
theorem probeCheck_of_stream (hl : argField a 0 0 8 ≤ 3) (hlow : 0 < argField a 0 8 8) (hhigh : argField a 0 8 8 ≤ 15)
    (s : State) : probeCheck a s =
      if argKind a = none then some .badArgument
      else if argField a 1 0 16 = 0 ∨ 512 < argField a 1 0 16 then some .badArgument
      else if probeRangeBad a then some .badArgument
      else none := by
  have hstream : streamOf? (argField a 0 8 8) ≠ none := by
    rw [Ne, streamOf?_eq_none]
    omega
  exact (if_neg (not_lt.2 hl)).trans (if_neg hstream)

/-- A length or an address that R54 does not allow is refused, whichever of the two checks finds it. -/
theorem probeCheck_badRequest (hl : argField a 0 0 8 ≤ 3) (hlow : 0 < argField a 0 8 8) (hhigh : argField a 0 8 8 ≤ 15)
    (hbad : argField a 1 0 16 = 0 ∨ 512 < argField a 1 0 16 ∨ probeRangeBad a) (s : State) :
    probeCheck a s = some .badArgument := by
  rw [probeCheck_of_stream hl hlow hhigh]
  split_ifs with _ hlength hrange
  · rfl
  · rfl
  · rfl
  · exact absurd hbad (by tauto)

theorem probeCheck_passes (hl : argField a 0 0 8 = l.val) (hst : argField a 0 8 8 = st.val + 1)
    (hk : kindNumbered k (argField a 0 16 2)) (hlow : 0 < argField a 1 0 16) (hhigh : argField a 1 0 16 ≤ 512)
    (hrange : ¬probeRangeBad a) (s : State) : probeCheck a s = none := by
  have hkind : argKind a = some k := ReqKind.ofNat?_numbered hk
  rw [probeCheck_of_stream (by omega) (by omega) (by omega), if_neg (by simp [hkind]), if_neg (by omega),
    if_neg hrange]

/-! ## The result (R139, R192) -/

theorem probeEffect_eq (hl : argField a 0 0 8 = l.val) (hst : argField a 0 8 8 = st.val + 1)
    (hk : kindNumbered k (argField a 0 16 2)) (s : State) : probeEffect a s =
      ⟨s, .ok, s.probeWords
        { link := l
          tag := 0
          kind := k
          stream := st
          addr := BitVec.ofNat 48 (argPair a 2 3)
          length := argField a 1 0 16
          data := none }⟩ := by
  have hkind : argKind a = some k := ReqKind.ofNat?_numbered hk
  simp only [probeEffect, streamOf?_argStreamNo hst, hkind, probeRequest, argLink_eq hl]
  rfl

end Checks

/-- The outcome code and the mark of a deciding window in one word (R192). -/
theorem probeWord_eq (n : Nat) (decided : Bool) : fieldWord 0 8 n ||| fieldWord 8 1 decided.toNat =
    0#23 ++ BitVec.ofBool decided ++ BitVec.ofNat 8 n := by
  refine BitVec.eq_of_getLsbD_eq fun i hi => ?_
  simp only [BitVec.getLsbD_or, getLsbD_fieldWord, BitVec.getLsbD_append, BitVec.getLsbD_ofNat]
  cases decided <;> interval_cases i <;> simp

/-- Items that are 0 read as the result registers beyond the items do (R131). -/
theorem results_append_zeros (code : ResultCode) (items : List Word) (n : Nat) :
    results code (items ++ List.replicate n 0) = results code items := by
  refine Vector.ext fun i hi => ?_
  simp only [results, Vector.getElem_ofFn]
  split
  · rfl
  · simp only [List.getD_eq_getElem?_getD, List.getElem?_append, List.getElem?_replicate]
    split
    · rfl
    · next hlen =>
      rw [List.getElem?_eq_none (not_lt.1 hlen)]
      split <;> rfl

theorem State.probeWords_undecided {s : State} {q : Request} (h : (s.ruling q).decided = none) :
    s.probeWords q = [0#23 ++ 0#1 ++ BitVec.ofNat 8 ((s.ruling q).outcome q.kind).num] ++ List.replicate 3 0 := by
  have hword := probeWord_eq ((s.ruling q).outcome q.kind).num false
  simp only [State.probeWords, h]
  exact congrArg (· :: List.replicate 3 0) hword

theorem State.probeWords_decided {s : State} {q : Request} {i : SlotId} (h : (s.ruling q).decided = some i) :
    s.probeWords q = [0#23 ++ 1#1 ++ BitVec.ofNat 8 ((s.ruling q).outcome q.kind).num,
      handleWord i (s.window i).generation] ++ twoWords ((s.window i).translate q.addr) := by
  have hword := probeWord_eq ((s.ruling q).outcome q.kind).num true
  simp only [State.probeWords, h, State.handleOf, Handle.word_eq_handleWord, pairWords_eq_twoWords, BitVec.ofNat_toNat,
    BitVec.setWidth_eq]
  exact congrArg (· :: _) hword

/-- Settles O33: the checks in order select the refusal, and the ruling of the request described the result words. -/
theorem probeReportsWithoutChange : Obligations.ProbeReportsWithoutChange := by
  intro s c ht stream badRange
  refine ⟨fun hl => takeCommand_refuses ht (if_pos hl),
    fun hl hst => takeCommand_refuses ht (probeCheck_noStream hl hst s), fun hl hlow hhigh hk => ?badKind,
    fun hl hlow hhigh _ hbad => takeCommand_refuses ht (probeCheck_badRequest hl hlow hhigh hbad s),
    fun l st k hl hst hk hlow hhigh hrange => ?accepted⟩
  case badKind =>
    have hkind : argKind c.args = none := by rw [argKind, hk]; rfl
    exact takeCommand_refuses ht ((probeCheck_of_stream hl hlow hhigh s).trans (if_pos hkind))
  case accepted =>
    intro q outcome
    have hdone : exec .probe s = .next (commandDone c .ok (s.probeWords q) s) :=
      takeCommand_effects ht (probeCheck_passes hl hst hk hlow hhigh hrange s) (probeEffect_eq hl hst hk s)
    refine ⟨fun hnone => ?_, fun i hsome => ?_⟩
    · rw [hdone, State.probeWords_undecided hnone, commandDone, results_append_zeros]
      rfl
    · rw [hdone, State.probeWords_decided hsome]
      rfl

end Sys2Proof.Machine
end

section
/-! CERTIFICATES. The refusals of the control requests OPEN, CLOSE, NARROW and STATUS, in the order of R145 and of each
operation (R146, R148, R149). -/

namespace Sys2Proof.Machine

open Sys2Proof.Spec

/-! ## What a taken control request leaves (R127) -/

theorem finishControl_eq_controlDone (q : CtlRequest) (rest : List CtlRequest) (r : CtlDone) :
    finishControl q rest r = controlDone q rest r.code r.body r.state := rfl

/-- A row that takes the request at the head of the queue answers what carrying the request out gives. -/
theorem takeControl_takes {op : CtlOp} {act : CtlRequest → State → CtlDone} {q : CtlRequest} {rest : List CtlRequest}
    {s : State} (ht : takesControl op q rest s) :
    takeControl op act s = .next (controlDone q rest (act q s).code (act q s).body (act q s).state) := by
  obtain ⟨hq, hop, hturn⟩ := ht
  rw [takeControl_taken hq hop hturn, finishControl_eq_controlDone]

/-! ## The checks of a request, operation by operation -/

/-- CLOSE and NARROW, the operations that name a window by its handle (R148, R149). -/
abbrev namesWindow (q : CtlRequest) : Prop := q.op = .closeWindow ∨ q.op = .narrow

/-- The checks of the request's own operation end with `code`. -/
def CtlRequest.failsWith (q : CtlRequest) (code : ResultCode) (s : State) : Prop :=
  match q.op with
  | .openWindow => openCheck q s = .error code
  | .closeWindow => ownWindowCheck q s = .error code
  | .narrow => ownWindowCheck q s = .error code
  | .status => s.controlDomain q = .error code

section
variable {q : CtlRequest} {code : ResultCode} {s : State}

theorem failsWith_open (hop : q.op = .openWindow) : q.failsWith code s ↔ openCheck q s = .error code := by
  simp only [CtlRequest.failsWith, hop]

theorem failsWith_handled (hop : namesWindow q) : q.failsWith code s ↔ ownWindowCheck q s = .error code := by
  rcases hop with hop | hop <;> simp only [CtlRequest.failsWith, hop]

theorem failsWith_status (hop : q.op = .status) : q.failsWith code s ↔ s.controlDomain q = .error code := by
  simp only [CtlRequest.failsWith, hop]

/-- A row whose request fails a check hands the refusal and changes nothing else (R134). -/
theorem controlRefused_of_failsWith {rest : List CtlRequest} {row : Instr} (hrow : (row, q.op) ∈ controlOps)
    (ht : takesControl q.op q rest s) (hfails : q.failsWith code s) : controlRefused row q rest code s := by
  have hrefuse : ∀ {op : CtlOp} {act : CtlRequest → State → CtlDone}, q.op = op → act q s = CtlDone.refuse code s →
      takeControl op act s = .next (controlDone q rest code [] s) := fun hop hact => by
    rw [takeControl_takes (hop ▸ ht), hact]
    rfl
  unfold controlRefused
  simp only [controlOps, List.mem_cons, Prod.mk.injEq, List.not_mem_nil, or_false] at hrow
  obtain ⟨rfl, hop⟩ | ⟨rfl, hop⟩ | ⟨rfl, hop⟩ | ⟨rfl, hop⟩ := hrow
  · exact hrefuse hop (by rw [openAct, (failsWith_open hop).1 hfails])
  · exact hrefuse hop (by rw [closeAct, (failsWith_handled (.inl hop)).1 hfails])
  · exact hrefuse hop (by rw [narrowAct, (failsWith_handled (.inr hop)).1 hfails])
  · exact hrefuse hop (by rw [statusAct, (failsWith_status hop).1 hfails])

end

/-! ## The stream and its domain (R145, orders 1, 4 and 5) -/

section
variable {q : CtlRequest} {s : State} {st : DataStream} {d : DomId}

theorem controlDomain_unbound (hst : q.streamNo = st.val + 1) (hb : (s.stream q.link st).bound = none) :
    s.controlDomain q = .error .badStream := by
  simp only [State.controlDomain, hst, streamOf?_streamNum, hb]

theorem controlDomain_bound (hst : q.streamNo = st.val + 1) (hb : (s.stream q.link st).bound = some d) :
    s.controlDomain q = if (s.domain d).state = .active then .ok d else .error .frozen := by
  simp only [State.controlDomain, hst, streamOf?_streamNum, hb]

theorem streamOf?_streamNo_eq_none_iff (q : CtlRequest) : streamOf? q.streamNo = none ↔ q.streamNo = 0 := by
  have hlow : q.streamNo < 16 := Nat.mod_lt _ (by omega)
  rw [streamOf?_eq_none]
  omega

/-- The control stream names no data stream (R145). -/
theorem failsWith_badStream (h : q.streamNo = 0) : q.failsWith .badStream s := by
  have hnone := (streamOf?_streamNo_eq_none_iff q).2 h
  cases hop : q.op with
  | openWindow => exact (failsWith_open hop).2 (if_pos hnone)
  | closeWindow => exact (failsWith_handled (.inl hop)).2 (if_pos hnone)
  | narrow => exact (failsWith_handled (.inr hop)).2 (if_pos hnone)
  | status => exact (failsWith_status hop).2 (by simp only [State.controlDomain, hnone])

/-! ## The checks of OPEN (R146) -/

theorem openCheck_badPerms (hst : q.streamNo ≠ 0) (hp : ¬permsFit q.openPerms) : openCheck q s = .error .badArgument := by
  rw [openCheck, if_neg (mt (streamOf?_streamNo_eq_none_iff q).1 hst), if_pos ((Perms.legal_eq_false_iff _).2 hp)]

theorem openCheck_domainError {code : ResultCode} (hst : q.streamNo ≠ 0) (hp : permsFit q.openPerms)
    (hd : s.controlDomain q = .error code) : openCheck q s = .error code := by
  have hlegal : ¬q.openPerms.legal = false := fun h => (Perms.legal_eq_false_iff _).1 h hp
  simp only [openCheck, if_neg (mt (streamOf?_streamNo_eq_none_iff q).1 hst), if_neg hlegal, hd]

/-- No fence holds the area that OPEN asks for: there is none, or the area is not wholly within it (R146). -/
abbrev outsideFence (x : Domain) (base n : Nat) : Prop := ∀ f ∈ x.fence, ¬insideFence f base n

/-- The checks of OPEN behind its domain. -/
theorem openCheck_of_domain (hst : q.streamNo ≠ 0) (hp : permsFit q.openPerms) (hd : s.controlDomain q = .ok d) :
    openCheck q s =
      if ¬areaFits q.openGeometry.sizeExp q.openGeometry.base then .error .badGeometry
      else if outsideFence (s.domain d) q.openGeometry.base q.openGeometry.sizeExp then .error .outsideFence
      else if ¬q.openPerms.subset (s.domain d).selfCeiling = true then .error .ceiling
      else if (s.domain d).selfCount = (s.domain d).selfAllowance then .error .allowance
      else if noneFree s then .error .tableFull
      else .ok d := by
  have hlegal : ¬q.openPerms.legal = false := fun h => (Perms.legal_eq_false_iff _).1 h hp
  have harea : ¬areaFits q.openGeometry.sizeExp q.openGeometry.base ↔ q.openGeometry.areaOk = false := by
    rw [← Bool.not_eq_true, Geometry.areaOk_iff]
  have hfull : noneFree s ↔ s.lowestFree = none := (s.lowestFree_eq_none_iff).symm
  simp only [openCheck, if_neg (mt (streamOf?_streamNo_eq_none_iff q).1 hst), if_neg hlegal, hd, harea, hfull,
    Bool.not_eq_true]
  obtain hf | ⟨f, hf⟩ := Option.eq_none_or_eq_some (s.domain d).fence
  · simp [outsideFence, hf]
  · simp [outsideFence, hf, ← Fence.contains_iff]

/-! ## The checks of CLOSE and NARROW (R148, R149) -/

/-- The handle of the request names a slot but no window there (R3). -/
abbrev staleHandle (q : CtlRequest) (s : State) : Prop :=
  ∀ i : SlotId, fieldAtBytes q.body 0 2 = i.val →
    byteAt q.body 2 ≠ (s.window i).generation ∨ (s.window i).state = .free

theorem classify_stale (hslot : fieldAtBytes q.body 0 2 ≤ 127) (h : staleHandle q s) :
    s.classify (bodyHandle q.body) = .stale := by
  have hi := h ⟨fieldAtBytes q.body 0 2, by omega⟩ rfl
  refine (State.classify_slot (i := ⟨fieldAtBytes q.body 0 2, by omega⟩) rfl).trans (if_neg ?_)
  rintro ⟨hgen, hfree⟩
  exact hi.elim (· hgen.symm) hfree

theorem classify_current (h : ¬staleHandle q s) {i : SlotId} (hi : fieldAtBytes q.body 0 2 = i.val) :
    s.classify (bodyHandle q.body) = .current i := by
  simp only [staleHandle, not_forall, not_or, not_not] at h
  obtain ⟨j, hj, hgen, hfree⟩ := h
  obtain rfl : j = i := Fin.ext (hj.symm.trans hi)
  exact (State.classify_slot (h := bodyHandle q.body) hj).trans (if_pos ⟨hgen.symm, hfree⟩)

theorem ownWindowCheck_badHandle (hst : q.streamNo ≠ 0) (hslot : 127 < fieldAtBytes q.body 0 2) :
    ownWindowCheck q s = .error .badHandle := by
  have hclass : s.classify (bodyHandle q.body) = .noSlot := State.classify_noSlot hslot
  simp only [ownWindowCheck, if_neg (mt (streamOf?_streamNo_eq_none_iff q).1 hst), hclass]

theorem ownWindowCheck_staleHandle (hst : q.streamNo ≠ 0) (hslot : fieldAtBytes q.body 0 2 ≤ 127)
    (h : staleHandle q s) : ownWindowCheck q s = .error .staleHandle := by
  simp only [ownWindowCheck, if_neg (mt (streamOf?_streamNo_eq_none_iff q).1 hst), classify_stale hslot h]

section
variable {i : SlotId} (hst : q.streamNo ≠ 0) (h : ¬staleHandle q s) (hi : fieldAtBytes q.body 0 2 = i.val)
include hst h hi

theorem ownWindowCheck_domainError {code : ResultCode} (hd : s.controlDomain q = .error code) :
    ownWindowCheck q s = .error code := by
  simp only [ownWindowCheck, if_neg (mt (streamOf?_streamNo_eq_none_iff q).1 hst), classify_current h hi, hd]

/-- The checks of CLOSE and NARROW behind the window and the domain. -/
theorem ownWindowCheck_of_domain (hd : s.controlDomain q = .ok d) : ownWindowCheck q s =
    if (s.window i).state = .draining then .error .windowState
    else if (s.window i).owner ≠ .self ∨ (s.window i).domain ≠ d then .error .notOwner
    else .ok (d, i) := by
  simp only [ownWindowCheck, if_neg (mt (streamOf?_streamNo_eq_none_iff q).1 hst), classify_current h hi, hd]

end

theorem Owner.ne_self_iff (x : Owner) : x ≠ .self ↔ x = .management := by
  cases x <;> simp

/-! ## The refusals in order -/

/-- A request whose permissions or handle pass is refused as the stream's domain gives (R145, orders 4 and 5). -/
theorem failsWith_domainError {code : ResultCode} (hst : q.streamNo ≠ 0)
    (hperms : ¬(q.op = .openWindow ∧ ¬permsFit q.openPerms))
    (hhandle : namesWindow q → fieldAtBytes q.body 0 2 ≤ 127 ∧ ¬staleHandle q s)
    (hd : s.controlDomain q = .error code) : q.failsWith code s := by
  have hhandled : namesWindow q → q.failsWith code s := fun hop => by
    obtain ⟨hslot, hcurrent⟩ := hhandle hop
    exact (failsWith_handled hop).2
      (ownWindowCheck_domainError hst hcurrent (i := ⟨fieldAtBytes q.body 0 2, by omega⟩) rfl hd)
  cases hop : q.op with
  | openWindow => exact (failsWith_open hop).2 (openCheck_domainError hst (by tauto) hd)
  | closeWindow => exact hhandled (.inl hop)
  | narrow => exact hhandled (.inr hop)
  | status => exact (failsWith_status hop).2 hd

end

/-- Settles O40: the operation selects the checks, and the first that fails gives the reply's code. -/
theorem controlRequestsRefusedInOrder : Obligations.ControlRequestsRefusedInOrder := by
  intro s q rest row hrow ht stream handled slot base n perms badPerms stale no
  have hno : ∀ {code}, q.failsWith code s → no code := controlRefused_of_failsWith hrow ht
  refine ⟨fun hst => hno (failsWith_badStream hst),
    fun hst ⟨hop, hp⟩ => hno ((failsWith_open hop).2 (openCheck_badPerms hst hp)),
    fun hst hop hslot => hno ((failsWith_handled hop).2 (ownWindowCheck_badHandle hst hslot)),
    fun hst hop hslot hstale => hno ((failsWith_handled hop).2 (ownWindowCheck_staleHandle hst hslot hstale)),
    fun hperms hhandle st hst => ?behind⟩
  have hst0 : q.streamNo ≠ 0 := by
    change stream ≠ 0
    omega
  have hdomain : ∀ {code}, s.controlDomain q = .error code → no code := fun hd =>
    hno (failsWith_domainError hst0 hperms hhandle hd)
  refine ⟨fun hb => hdomain (controlDomain_unbound hst hb), fun d hb => ?_⟩
  intro dom outside within
  have hbound : s.controlDomain q = _ := controlDomain_bound hst hb
  refine ⟨fun hstate => hdomain (hbound.trans (if_neg hstate)), fun hactive hop => ?opens,
    fun hactive hop i hi => ?handled⟩
  case opens =>
    have hcheck := openCheck_of_domain hst0 (by tauto) (hbound.trans (if_pos hactive))
    have hfails : ∀ {code}, openCheck q s = .error code → no code := fun h => hno ((failsWith_open hop).2 h)
    rw [hcheck] at hfails
    refine ⟨fun harea => hfails (if_pos harea), fun harea hout => hfails ?_, fun harea hin hceil => hfails ?_,
      fun harea hin hceil hcount => hfails ?_, fun harea hin hceil hcount hfull => hfails ?_⟩ <;>
      refine (if_neg (not_not.2 harea)).trans ?_
    · exact if_pos hout
    all_goals refine (if_neg hin).trans ?_
    · exact if_pos hceil
    all_goals refine (if_neg (not_not.2 hceil)).trans ?_
    · exact if_pos hcount
    · exact (if_neg hcount).trans (if_pos hfull)
  case handled =>
    have hcheck := ownWindowCheck_of_domain hst0 (hhandle hop).2 hi (hbound.trans (if_pos hactive))
    refine ⟨fun hdrain => hno ((failsWith_handled hop).2 (hcheck.trans (if_pos hdrain))), fun hdrain hother => ?_⟩
    refine hno ((failsWith_handled hop).2 (hcheck.trans ((if_neg hdrain).trans (if_pos ?_))))
    exact hother.imp_left (Owner.ne_self_iff _).2

end Sys2Proof.Machine
end

section
/-! CERTIFICATES. The control requests as they arrive (R141 to R143), and OPEN, CLOSE, NARROW and STATUS when they are
accepted (R147 to R151). -/

namespace Sys2Proof.Machine

open Sys2Proof.Spec

/-! ## Protocol errors in the words of the statements (R168, R170) -/

theorem State.partReset_eq_resets (l : LinkId) (s : State) : s.partReset l = resets l s := by
  rw [State.partReset, ← State.leaveUp_now l s, resets]
  generalize s.leaveUp l = u
  rfl

theorem State.protocolError_eq_violates (l : LinkId) (e : ErrorCause) (s : State) :
    s.protocolError l e = violates l e s := by
  rw [State.protocolError, State.partReset_eq_resets]
  rfl

/-! ## Arriving control requests (R142, R143) -/

/-- The byte that names an operation in the header of a control request (R190). -/
def CtlOp.byte : CtlOp → Byte
  | .openWindow => 1
  | .closeWindow => 2
  | .narrow => 3
  | .status => 4

theorem CtlOp.ofByte?_eq_some_iff (b : Byte) (o : CtlOp) : CtlOp.ofByte? b = some o ↔ b = o.byte := by
  constructor
  · intro h
    unfold CtlOp.ofByte? at h
    split at h
    case h_5 => cases h
    all_goals
      next hb =>
        cases h
        exact BitVec.eq_of_toNat_eq hb
  · rintro rfl
    cases o <;> rfl

theorem CtlOp.byte_injective : Function.Injective CtlOp.byte := fun a b h =>
  Option.some.inj (((CtlOp.ofByte?_eq_some_iff _ a).2 rfl).symm.trans ((CtlOp.ofByte?_eq_some_iff _ b).2 h))

/-- The header names an operation and the body has that operation's length (R142, R190). -/
def ctlFits (op : Byte) (body : List Byte) : Prop := ∃ o : CtlOp, op = o.byte ∧ body.length = o.bodyLength

theorem ctlFits_iff (op : Byte) (body : List Byte) : ctlFits op body ↔
    (op = 1 ∧ body.length = 12) ∨ (op = 2 ∧ body.length = 4) ∨ (op = 3 ∧ body.length = 8) ∨
      (op = 4 ∧ body.length = 0) := by
  constructor
  · rintro ⟨o, hop, hlen⟩
    cases o with
    | openWindow => exact .inl ⟨hop, hlen⟩
    | closeWindow => exact .inr (.inl ⟨hop, hlen⟩)
    | narrow => exact .inr (.inr (.inl ⟨hop, hlen⟩))
    | status => exact .inr (.inr (.inr ⟨hop, hlen⟩))
  · rintro (h | h | h | h)
    exacts [⟨.openWindow, h⟩, ⟨.closeWindow, h⟩, ⟨.narrow, h⟩, ⟨.status, h⟩]

theorem execCtl_discarded {s : State} {l : LinkId} {tag : CtlTag} {byte2 op : Byte} {body : List Byte}
    (hdown : (s.port l).state ≠ .up) : execCtl l tag byte2 op body s = .next s := by
  rw [execCtl, if_neg hdown]

theorem execCtl_arrives {s : State} {l : LinkId} {tag : CtlTag} {byte2 op : Byte} {body : List Byte}
    (hup : (s.port l).state = .up) : execCtl l tag byte2 op body s = .next (s.ctlArrives l tag byte2 op body) := by
  rw [execCtl, if_pos hup]

section
variable {s : State} {l : LinkId} {tag : CtlTag} {op : Byte} {body : List Byte} (byte2 : Byte)

theorem State.ctlArrives_noCredit (hcredit : (s.port l).ctlCredits = 0) :
    s.ctlArrives l tag byte2 op body = s.protocolError l .noControlCredit := if_pos hcredit

theorem State.ctlArrives_duplicateTag (hcredit : (s.port l).ctlCredits ≠ 0)
    (htag : (s.port l).unrepliedCtl[tag] = true) :
    s.ctlArrives l tag byte2 op body = s.protocolError l .duplicateControlTag :=
  (if_neg hcredit).trans (if_pos htag)

variable (hcredit : (s.port l).ctlCredits ≠ 0) (htag : (s.port l).unrepliedCtl[tag] = false)
include hcredit htag

/-- A request the part cannot read spends its credit and is answered at once (R142). -/
theorem State.ctlArrives_unfit (hfits : ¬ctlFits op body) : s.ctlArrives l tag byte2 op body =
    (s.modPort l (LinkPort.acceptCtl tag)).handCtl l ⟨tag, byte2, .badArgument, []⟩ := by
  cases ho : CtlOp.ofByte? op with
  | none => simp [State.ctlArrives, hcredit, htag, ho]
  | some o =>
    have hlen : body.length ≠ o.bodyLength := fun h => hfits ⟨o, (CtlOp.ofByte?_eq_some_iff op o).1 ho, h⟩
    simp [State.ctlArrives, hcredit, htag, ho, hlen]

/-- A request that finds the in-band queue full is answered BUSY (R142, R143). -/
theorem State.ctlArrives_full (hfits : ctlFits op body) (hfull : 6 ≤ s.engine.inband.length) :
    s.ctlArrives l tag byte2 op body =
      ((s.modPort l (LinkPort.acceptCtl tag)).handCtl l ⟨tag, byte2, .busy, []⟩).raiseDev .inbandFull := by
  obtain ⟨o, hop, hlen⟩ := hfits
  have ho : CtlOp.ofByte? op = some o := (CtlOp.ofByte?_eq_some_iff op o).2 hop
  simp [State.ctlArrives, hcredit, htag, ho, hlen, Config.inbandCapacity, hfull]

/-- Every other request joins the tail of the in-band queue (R142). -/
theorem State.ctlArrives_queued {o : CtlOp} (hop : op = o.byte) (hlen : body.length = o.bodyLength)
    (hroom : s.engine.inband.length < 6) : s.ctlArrives l tag byte2 op body =
      (s.modPort l (LinkPort.acceptCtl tag)).setEngine
        { s.engine with inband := s.engine.inband ++ [⟨l, tag, byte2, o, body⟩] } := by
  have ho : CtlOp.ofByte? op = some o := (CtlOp.ofByte?_eq_some_iff op o).2 hop
  simp [State.ctlArrives, hcredit, htag, ho, hlen, Config.inbandCapacity, hroom.not_ge]

end

/-- A reply the port itself gives spends the credit in the same write of the port (R142, R143). -/
theorem State.acceptCtl_handCtl_eq (l : LinkId) (tag : CtlTag) (r : CtlReply) (s : State) :
    (s.modPort l (LinkPort.acceptCtl tag)).handCtl l r =
      s.setPort l { LinkPort.acceptCtl tag (s.port l) with outCtl := (s.port l).outCtl ++ [r] } :=
  s.modPort_setPort l _ _

/-- Settles O39: each clause is the line of R142 that its conditions select. -/
theorem controlArrivalCheckedInOrder : Obligations.ControlArrivalCheckedInOrder := by
  intro s l tag byte2 op body p known fits accepted answered runs
  have hfits : ctlFits op body ↔ fits := ctlFits_iff op body
  have harrives : p.state = .up → runs = .next (s.ctlArrives l tag byte2 op body) := execCtl_arrives
  refine ⟨execCtl_discarded, fun hup hcredit => ?noCredit, fun hup hcredit htag => ?duplicateTag,
    fun hup hcredit htag => ⟨fun hbad => ?unfit, fun hfit hfull => ?full, fun o hfit hroom ho => ?queued⟩⟩ <;>
    rw [harrives hup]
  case noCredit => rw [State.ctlArrives_noCredit byte2 hcredit, State.protocolError_eq_violates]
  case duplicateTag => rw [State.ctlArrives_duplicateTag byte2 hcredit htag, State.protocolError_eq_violates]
  case unfit =>
    have hunfit : ¬fits := hbad.elim (fun hunknown hfit => hunknown (by tauto)) id
    rw [State.ctlArrives_unfit byte2 hcredit htag (mt hfits.1 hunfit), State.acceptCtl_handCtl_eq]
    rfl
  case full =>
    rw [State.ctlArrives_full byte2 hcredit htag (hfits.2 hfit) hfull, State.acceptCtl_handCtl_eq]
    rfl
  case queued =>
    have hop : op = o.byte := by
      rcases ho with ⟨rfl, hop⟩ | ⟨rfl, hop⟩ | ⟨rfl, hop⟩ | ⟨rfl, hop⟩ <;> exact hop
    obtain ⟨o', hop', hlen⟩ := hfits.2 hfit
    obtain rfl : o' = o := CtlOp.byte_injective (hop'.symm.trans hop)
    rw [State.ctlArrives_queued byte2 hcredit htag hop hlen hroom]
    rfl

/-! ## Accepted requests: the domain and the notice (R145, R151) -/

theorem State.pendNotice_eq (d : DomId) (skip : Option LinkId) (s : State) :
    s.pendNotice d skip = { s with ports := pended d skip s } := by
  rw [← State.pendNotice_ports]
  rfl

/-- What a peer's own change sets off beside its effect `t` on the windows and the domains (R151). -/
theorem State.selfChanged_eq (q : CtlRequest) (d : DomId) (s : State) : s.selfChanged q d =
    { s with events := s.events.raiseDom d .selfChanged, ports := pended d (some q.link) s } := by
  rw [State.selfChanged, State.pendNotice_eq]
  rfl

theorem controlDomain_eq_ok {q : CtlRequest} {s : State} {st : DataStream} {d : DomId}
    (hst : q.streamNo = st.val + 1) (hb : (s.stream q.link st).bound = some d) (hactive : (s.domain d).state = .active) :
    s.controlDomain q = .ok d :=
  (controlDomain_bound hst hb).trans (if_pos hactive)

theorem streamNo_ne_zero {q : CtlRequest} {st : DataStream} (hst : q.streamNo = st.val + 1) : q.streamNo ≠ 0 := by
  omega

/-! ## Accepted OPEN (R147) -/

/-- The rank OPEN gives is the lowest SELF rank that no window on the chain holds (R147). -/
theorem State.selfRank_eq {s : State} {d : DomId} {r : Nat} (hmin : 128 ≤ r) (hmax : r ≤ 255)
    (hfree : s.rankHeld d r = false) (hheld : ∀ k, 128 ≤ k → k < r → s.rankHeld d k = true) : s.selfRank d = r := by
  have hfind : ((List.range 128).map (· + Config.selfRankMin)).find? (fun r => !(s.rankHeld d r)) = some r := by
    rw [List.find?_eq_some_iff_getElem]
    refine ⟨by simp [hfree], r - 128, by simpa using by omega, by simpa using Nat.sub_add_cancel hmin, fun j hj => ?_⟩
    simpa using hheld (j + 128) (by omega) (by omega)
  rw [State.selfRank, hfind, Option.getD_some]

/-- The ranks around its place on the chain decide the rank that OPEN gives (R31, R147). -/
theorem State.selfRank_of_chain {s : State} {d : DomId} {r : Nat} {pre post : List SlotId}
    (hchain : (s.domain d).chain = pre ++ post) (hmin : 128 ≤ r) (hmax : r ≤ 255)
    (hpre : ∀ j ∈ pre, (s.window j).rank < r) (hpost : ∀ j ∈ post, r < (s.window j).rank)
    (hheld : ∀ k, 128 ≤ k → k < r → ∃ j ∈ pre, (s.window j).rank = k) : s.selfRank d = r := by
  refine State.selfRank_eq hmin hmax ?_ fun k hk hkr => ?_
  · rw [← Bool.not_eq_true, State.rankHeld_iff, hchain]
    rintro ⟨j, hj, heq⟩
    rcases List.mem_append.1 hj with hj | hj
    · exact absurd heq (hpre j hj).ne
    · exact absurd heq (hpost j hj).ne'
  · obtain ⟨j, hj, heq⟩ := hheld k hk hkr
    exact (s.rankHeld_iff d k).2 ⟨j, hchain ▸ List.mem_append_left _ hj, heq⟩

/-- OPEN passes its checks (R145, R146). -/
theorem openCheck_passes {q : CtlRequest} {s : State} {d : DomId} {f : Fence} {i : SlotId} (hst : q.streamNo ≠ 0)
    (hp : permsFit q.openPerms) (hd : s.controlDomain q = .ok d)
    (harea : areaFits q.openGeometry.sizeExp q.openGeometry.base) (hf : (s.domain d).fence = some f)
    (hin : insideFence f q.openGeometry.base q.openGeometry.sizeExp)
    (hceil : q.openPerms.subset (s.domain d).selfCeiling = true)
    (hcount : (s.domain d).selfCount ≠ (s.domain d).selfAllowance) (hfree : (s.window i).state = .free) :
    openCheck q s = .ok d := by
  have hinside : ¬outsideFence (s.domain d) q.openGeometry.base q.openGeometry.sizeExp := fun h => h f hf hin
  have hroom : ¬noneFree s := fun h => h i hfree
  rw [openCheck_of_domain hst hp hd, if_neg (not_not.2 harea), if_neg hinside, if_neg (not_not.2 hceil), if_neg hcount,
    if_neg hroom]

/-- A SELF window that joins a chain goes to the place the ranks around it decide (R4, R31, R147). -/
theorem State.installed_self_eq {s : State} {d : DomId} {i : SlotId} {w : Window} {pre post : List SlotId}
    (hself : w.owner = .self) (hchain : (s.domains[d]).chain = pre ++ post) (hnew : i ∉ pre ++ post)
    (hpre : ∀ j ∈ pre, (s.windows[j]).rank < w.rank) (hpost : ∀ j ∈ post, w.rank < (s.windows[j]).rank) :
    s.installed d i w =
      { s with
        windows := s.windows.set i { w with generation := (s.windows[i]).generation + 1 }
        domains := s.domains.set d
          { s.domains[d] with chain := pre ++ i :: post, selfCount := (s.domains[d]).selfCount + 1 } } := by
  have hplace : insertByRank (s.fillSlot i w).windows i w.rank ((s.fillSlot i w).domain d).chain = pre ++ i :: post := by
    rw [State.domain_eq, State.fillSlot_domains, hchain]
    exact insertByRank_set hpre hpost hnew
  simp only [State.installed, State.modDomain, hplace, if_pos hself]
  rfl

/-- The reply to OPEN names the new window by its handle (R147, R190). -/
theorem openEffect_eq {q : CtlRequest} {s : State} {d : DomId} {f : Fence} {i : SlotId} (hlow : s.lowestFree = some i)
    (hf : (s.domain d).fence = some f) : openEffect q d s =
      ⟨(s.installed d i (q.selfWindow d f (s.selfRank d))).selfChanged q d, .ok,
        leBytes 2 i.val ++ [(s.window i).generation + 1, 0]⟩ := by
  rw [← openEffect_installed hlow hf]
  simp only [openEffect, hlow, hf, CtlDone.mk.injEq, true_and, Handle.bytes, State.handleOf]
  rw [State.window_modDomain, State.chainInsert, State.window_modDomain, State.window_fillSlot, if_pos rfl]

/-- Settles O41: the checks pass, the ranks on the chain give the rank, and the fence gives the translation. -/
theorem openCreatesSelfWindow : Obligations.OpenCreatesSelfWindow := by
  intro s q rest st d f i rank pre post x base n perms ht hst hb hactive hp harea hf hin hceil hcount hfree hchain hnew
    hmin hmax hpre hpost hheld
  have hlow : s.lowestFree = some i := (s.lowestFree_eq_some_iff i).2 hfree
  have hrank : s.selfRank d = rank := State.selfRank_of_chain hchain hmin hmax hpre hpost hheld
  have hcheck : openCheck q s = .ok d :=
    openCheck_passes (streamNo_ne_zero hst) hp (controlDomain_eq_ok hst hb hactive) harea hf hin hceil hcount hfree.1
  have hact : openAct q s = openEffect q d s := by rw [openAct, hcheck]
  refine (takeControl_takes ht).trans ?_
  rw [hact, openEffect_eq hlow hf, hrank, State.installed_self_eq rfl hchain hnew hpre hpost, State.selfChanged_eq]
  rfl

/-! ## Accepted CLOSE and NARROW (R148, R149) -/

/-- CLOSE and NARROW pass their checks (R145, R148, R149). -/
theorem ownWindowCheck_passes {q : CtlRequest} {s : State} {d : DomId} {i : SlotId} (hst : q.streamNo ≠ 0)
    (hd : s.controlDomain q = .ok d) (hi : fieldAtBytes q.body 0 2 = i.val)
    (hgen : byteAt q.body 2 = (s.window i).generation)
    (hstate : (s.window i).state = .live ∨ (s.window i).state = .suspended) (hself : (s.window i).owner = .self)
    (hdom : (s.window i).domain = d) : ownWindowCheck q s = .ok (d, i) := by
  obtain ⟨hfree, hdrain⟩ := Window.onChain_state hstate
  have hcurrent : ¬staleHandle q s := fun h => (h i hi).elim (· hgen) hfree
  have hmine : ¬((s.window i).owner ≠ .self ∨ (s.window i).domain ≠ d) := by simp [hself, hdom]
  rw [ownWindowCheck_of_domain hst hcurrent hi hd, if_neg hdrain, if_neg hmine]

theorem closeEffect_eq {q : CtlRequest} {s : State} {d : DomId} {i : SlotId} {pre post : List SlotId}
    (hchain : (s.domains[d]).chain = pre ++ i :: post) (hnot : i ∉ pre ++ post) : closeEffect q d i s =
      ⟨{ s with
          windows := s.windows.set i (removed (s.windows[i]))
          domains := s.domains.set d (chainLeft (s.domains[d]) (s.windows[i]) (pre ++ post))
          events := s.events.raiseDom d .selfChanged
          ports := pended d (some q.link) s },
        removalCode (s.windows[i]), []⟩ := by
  rw [closeEffect, State.selfChanged_eq, State.removeWindow_eq, hchain, filter_ne_middle hnot]
  rfl

/-- A permission set in a byte of a message (R187). -/
theorem permsByte_eq (p : Perms) : BitVec.ofNat 8 p.toNat = 0#5 ++ permBits p := by
  obtain ⟨r, w, sp⟩ := p
  cases r <;> cases w <;> cases sp <;> rfl

theorem narrowEffect_eq (q : CtlRequest) (d : DomId) (i : SlotId) (s : State) : narrowEffect q d i s =
    let kept := (s.windows[i]).perms.narrowTo (Perms.ofNat (byteAt q.body 4).toNat)
    ⟨{ s with
        windows := s.windows.set i { s.windows[i] with perms := kept }
        events := s.events.raiseDom d .selfChanged
        ports := pended d (some q.link) s },
      .ok, [0#5 ++ permBits kept, 0, 0, 0]⟩ := by
  simp only [narrowEffect, State.selfChanged_eq, permsByte_eq]
  rfl

/-- Settles O42: both requests pass the checks they share; CLOSE removes as a retirement does, NARROW writes the
intersection. -/
theorem closeAndNarrowChangeOwnWindow : Obligations.CloseAndNarrowChangeOwnWindow := by
  intro s q rest st d i w given hst hb hactive hi hgen hstate hself hdom
  have hcheck : ownWindowCheck q s = .ok (d, i) :=
    ownWindowCheck_passes (streamNo_ne_zero hst) (controlDomain_eq_ok hst hb hactive) hi hgen hstate hself hdom
  refine ⟨fun ht pre post hchain hnot => ?close, fun ht => ?narrow⟩ <;> refine (takeControl_takes ht).trans ?_
  case close =>
    have hact : closeAct q s = closeEffect q d i s := by rw [closeAct, hcheck]
    rw [hact, closeEffect_eq hchain hnot]
  case narrow =>
    have hact : narrowAct q s = narrowEffect q d i s := by rw [narrowAct, hcheck]
    rw [hact, narrowEffect_eq]
    rfl

/-! ## Accepted STATUS (R150) -/

/-- The body of a STATUS reply for an ACTIVE domain, byte by byte (R190). -/
theorem State.statusBody_eq {s : State} {d : DomId} (hactive : (s.domain d).state = .active) : s.statusBody d =
    let x := s.domains[d]
    [1, BitVec.ofNat 8 x.faultCount, BitVec.ofNat 8 x.selfAllowance, BitVec.ofNat 8 x.selfCount, 0, 0, 0, 0] ++
      (x.chain.filter fun i => decide ((s.windows[i]).owner = .self)).flatMap fun i =>
        let w := s.windows[i]
        leBytes 2 i.val ++ [w.generation, BitVec.ofNat 8 w.state.num] ++ leBytes 8 w.base.toNat ++
          [BitVec.ofNat 8 w.sizeExp, 0#5 ++ permBits w.perms, 0, 0] := by
  simp only [State.statusBody, statusEntry, permsByte_eq, hactive]
  rfl

/-- Settles O43: STATUS has no check of its own, and its answer is the state as it stands. -/
theorem statusReportsSelfWindows : Obligations.StatusReportsSelfWindows := by
  intro s q rest st d x ht hst hb hactive
  have hact : statusAct q s = ⟨s, .ok, s.statusBody d⟩ := by
    rw [statusAct, controlDomain_eq_ok hst hb hactive]
  refine (takeControl_takes ht).trans ?_
  rw [hact, State.statusBody_eq hactive]

end Sys2Proof.Machine
end

section
/-! CERTIFICATES. The messages that a link sends from what its port holds: NOTICE with its credit and acknowledgement
(R153, R154), and the replies (R144, R163, R166). -/

namespace Sys2Proof.Machine

open Sys2Proof.Spec

/-! ## NOTICE and NOTICE_ACK (R153, R154) -/

/-- The set of streams as the NOTICE spells it: bit `s` for stream `s`, bit 0 zero (R188). -/
def StreamSet.maskBits (m : StreamSet) : BitVec 16 := BitVec.ofNat 16 m.mask

theorem StreamSet.getLsbD_maskBits_zero (m : StreamSet) : m.maskBits.getLsbD 0 = false := by
  rw [StreamSet.maskBits, BitVec.getLsbD_ofNat, StreamSet.mask, testBit_maskOf]
  simp

theorem StreamSet.getLsbD_maskBits_succ (m : StreamSet) (st : DataStream) :
    m.maskBits.getLsbD (st.val + 1) = m[st] := by
  rw [StreamSet.maskBits, BitVec.getLsbD_ofNat, StreamSet.mask, testBit_maskOf]
  have hst : st.val + 1 < 16 := by omega
  simp [hst]

/-- A mask fits in 16 bits, so its two bytes are the two bytes of the word (R187, R188). -/
theorem StreamSet.leBytes_mask (m : StreamSet) :
    leBytes 2 m.mask = [m.maskBits.extractLsb' 0 8, m.maskBits.extractLsb' 8 8] := by
  have hlow : BitVec.ofNat 8 m.mask = m.maskBits.extractLsb' 0 8 := by
    apply BitVec.eq_of_toNat_eq
    simp only [StreamSet.maskBits, BitVec.toNat_ofNat, BitVec.extractLsb'_toNat, Nat.shiftRight_zero]
    omega
  have hhigh : BitVec.ofNat 8 (m.mask / 256) = m.maskBits.extractLsb' 8 8 := by
    apply BitVec.eq_of_toNat_eq
    simp only [StreamSet.maskBits, BitVec.toNat_ofNat, BitVec.extractLsb'_toNat, Nat.shiftRight_eq_div_pow]
    omega
  rw [← hlow, ← hhigh]
  rfl

/-- The bytes of a NOTICE (R188). -/
theorem noticeBytes_eq (m : StreamSet) : (LinkMessage.notice m).bytes =
    [0x15, 0, 0, 0, m.maskBits.extractLsb' 0 8, m.maskBits.extractLsb' 8 8] := by
  rw [LinkMessage.bytes, StreamSet.leBytes_mask]
  rfl

theorem execNotice_of_ready {l : LinkId} {s : State} (h : (s.port l).noticeReady = true) : execNotice l s =
    .next (sentOn l (LinkMessage.notice (s.port l).noticeSet).bytes
      (s.setPort l { s.port l with noticeSet := StreamSet.none, noticeCredit := .outstanding })) := by
  rw [execNotice, if_pos h]
  rfl

theorem execNotice_of_not_ready {l : LinkId} {s : State} (h : ¬(s.port l).noticeReady = true) :
    execNotice l s = .next s := by
  rw [execNotice, if_neg h]

theorem execNoticeAck_discarded {l : LinkId} {s : State} (hdown : (s.port l).state ≠ .up) :
    execNoticeAck l s = .next s := by
  rw [execNoticeAck, if_neg hdown]

theorem execNoticeAck_outstanding {l : LinkId} {s : State} (hup : (s.port l).state = .up)
    (hcredit : (s.port l).noticeCredit = .outstanding) :
    execNoticeAck l s = .next (s.setPort l { s.port l with noticeCredit := .held }) := by
  simp only [execNoticeAck, if_pos hup, hcredit]
  rfl

theorem execNoticeAck_stray {l : LinkId} {s : State} (hup : (s.port l).state = .up)
    (hcredit : (s.port l).noticeCredit = .held) : execNoticeAck l s = .next (violates l .strayAck s) := by
  simp only [execNoticeAck, if_pos hup, hcredit, State.protocolError_eq_violates]

/-- Settles O49: the set is spelled by its mask, and the acknowledgement meets the credit as it stands. -/
theorem noticeSpendsCreditAndAckReturnsIt : Obligations.NoticeSpendsCreditAndAckReturnsIt := by
  intro s l p ready
  have hready : p.noticeReady = true ↔ ready := LinkPort.noticeReady_iff p
  refine ⟨fun h => execNotice_of_not_ready (mt hready.1 h), fun h => ?sent, execNoticeAck_discarded,
    execNoticeAck_outstanding, execNoticeAck_stray⟩
  refine ⟨p.noticeSet.maskBits,
    ⟨p.noticeSet.getLsbD_maskBits_zero, p.noticeSet.getLsbD_maskBits_succ⟩, ?_⟩
  rw [← noticeBytes_eq]
  exact execNotice_of_ready (hready.2 h)

/-! ## The sending of replies (R144, R163, R166) -/

/-- The first element that satisfies the condition is taken, and the rest stays in order (log 12). -/
theorem takeFirst_append {α : Type} {p : α → Bool} {x : α} (hx : p x = true) (post : List α) :
    ∀ {pre : List α}, (∀ y ∈ pre, p y = false) → takeFirst p (pre ++ x :: post) = some (x, pre ++ post)
  | [], _ => by simp [takeFirst, hx]
  | y :: pre, hpre => by
    have ih := takeFirst_append hx post (pre := pre) fun z hz => hpre z (List.mem_cons_of_mem _ hz)
    simp [takeFirst, hpre y List.mem_cons_self, ih]

/-- Of the replies handed, the first of a tag is the one that leaves (log 12). -/
theorem takeFirst_tag {α β : Type} [DecidableEq β] (tagOf : α → β) {x : α} {pre post : List α}
    (hpre : ∀ y ∈ pre, tagOf y ≠ tagOf x) :
    takeFirst (fun y => decide (tagOf y = tagOf x)) (pre ++ x :: post) = some (x, pre ++ post) :=
  takeFirst_append (p := fun y => decide (tagOf y = tagOf x)) (decide_eq_true rfl) post fun y hy =>
    decide_eq_false (hpre y hy)

/-- A data reply leaves: its data credit returns and its peer tag is replied (R163, R166). -/
theorem execSendDataReply_sends {l : LinkId} {s : State} {r : DataReply} {pre post : List DataReply}
    (hup : (s.port l).state = .up) (hout : (s.port l).outData = pre ++ r :: post) (hpre : ∀ y ∈ pre, y.tag ≠ r.tag) :
    execSendDataReply l r.tag s = .next (sentOn l (LinkMessage.dataReply r).bytes
      (s.setPort l
        { s.port l with
          outData := pre ++ post
          dataCredits := (s.port l).dataCredits + 1
          unrepliedTags := (s.port l).unrepliedTags.set r.tag false })) := by
  simp only [execSendDataReply, if_pos hup, hout, takeFirst_tag DataReply.tag hpre]
  rfl

/-- A control reply leaves: its control credit returns and its control tag is replied (R144). -/
theorem execSendCtlReply_sends {l : LinkId} {s : State} {r : CtlReply} {pre post : List CtlReply}
    (hup : (s.port l).state = .up) (hout : (s.port l).outCtl = pre ++ r :: post) (hpre : ∀ y ∈ pre, y.tag ≠ r.tag) :
    execSendCtlReply l r.tag s = .next (sentOn l (LinkMessage.ctlReply r).bytes
      (s.setPort l
        { s.port l with
          outCtl := pre ++ post
          ctlCredits := (s.port l).ctlCredits + 1
          unrepliedCtl := (s.port l).unrepliedCtl.set r.tag false })) := by
  simp only [execSendCtlReply, if_pos hup, hout, takeFirst_tag CtlReply.tag hpre]
  rfl

/-- The bytes of a CTL_REPLY: the request's byte 2 stands in it whole (R188, log 7). -/
theorem ctlReplyBytes_eq (r : CtlReply) : (LinkMessage.ctlReply r).bytes =
    [0x14, BitVec.ofNat 8 r.tag.val, r.byte2, BitVec.ofNat 8 r.code.num] ++ r.body := by
  simp only [LinkMessage.bytes, header, BitVec.ofNat_toNat, BitVec.setWidth_eq]
  rfl

/-- Settles O50: the reply named by its tag is taken out, and its answer selects the layout of R188. -/
theorem sendingRepliesReturnsCredits : Obligations.SendingRepliesReturnsCredits := by
  intro s l hup p
  refine ⟨fun r pre post hout hpre => (execSendDataReply_sends hup hout hpre).trans ?data,
    fun r pre post hout hpre => (execSendCtlReply_sends hup hout hpre).trans ?ctl⟩
  case data =>
    obtain ⟨tag, st, answer⟩ := r
    cases answer <;> rfl
  case ctl =>
    rw [ctlReplyBytes_eq]
    rfl

end Sys2Proof.Machine
end

section
/-! CERTIFICATES. The data requests as they arrive (R164), and the events that move a link between its states: training
(R161), LINK_RESET and unknown messages (R168, R170), the signal (R160), the timers, and LINK_SET (R172). -/

namespace Sys2Proof.Machine

open Sys2Proof.Spec

/-! ## The checks of a data request, line by line (R164) -/

/-- The length of a data request that R164 does not allow. -/
def badLength (len : Nat) : Prop := len = 0 ∨ 512 < len

/-- A data request whose last byte lies beyond the input address space (R164). -/
def badRange (addr : InAddr) (len : Nat) : Prop := 2 ^ 48 - 1 < addr.toNat + len - 1

section
variable {p : LinkPort} {tag : PeerTag} {stream : StreamNo} {addr : InAddr} {len : Nat}

theorem dataCheck_streamZero (hstream : stream = 0) : dataCheck p tag stream addr len = some .streamZero :=
  if_pos hstream

variable (hstream : stream ≠ 0)
include hstream

theorem dataCheck_badLength (hbad : badLength len) : dataCheck p tag stream addr len = some .badLength :=
  (if_neg hstream).trans (if_pos hbad)

variable (hlen : ¬badLength len)
include hlen

theorem dataCheck_badRange (hbad : badRange addr len) : dataCheck p tag stream addr len = some .badRange :=
  (if_neg hstream).trans <| (if_neg hlen).trans <| if_pos hbad

variable (hrange : ¬badRange addr len)
include hrange

/-- A request of good stream, length and range is left to its credit and its tag. -/
theorem dataCheck_placed : dataCheck p tag stream addr len =
    if p.dataCredits = 0 then some .noDataCredit
    else if p.unrepliedTags[tag] = true then some .duplicateTag
    else none :=
  (if_neg hstream).trans <| (if_neg hlen).trans <| if_neg hrange

theorem dataCheck_noCredit (hcredit : p.dataCredits = 0) :
    dataCheck p tag stream addr len = some .noDataCredit := by
  rw [dataCheck_placed hstream hlen hrange, if_pos hcredit]

theorem dataCheck_duplicateTag (hcredit : p.dataCredits ≠ 0) (htag : p.unrepliedTags[tag] = true) :
    dataCheck p tag stream addr len = some .duplicateTag := by
  rw [dataCheck_placed hstream hlen hrange, if_neg hcredit, if_pos htag]

theorem dataCheck_passes (hcredit : p.dataCredits ≠ 0) (htag : p.unrepliedTags[tag] = false) :
    dataCheck p tag stream addr len = none := by
  rw [dataCheck_placed hstream hlen hrange, if_neg hcredit, if_neg (Bool.eq_false_iff.1 htag)]

end

/-! ## Arriving data requests (R162 to R164) -/

section
variable {s : State} {l : LinkId} {kind : ReqKind} {tag : PeerTag} {stream : StreamNo} {addr : InAddr} {len : Nat}
  {data : Option (List Byte)}

theorem State.dataArrives_discarded (hdown : (s.port l).state ≠ .up) :
    s.dataArrives l kind tag stream addr len data = s := if_neg hdown

variable (hup : (s.port l).state = .up)
include hup

theorem State.dataArrives_violates {e : ErrorCause} (hcheck : dataCheck (s.port l) tag stream addr len = some e) :
    s.dataArrives l kind tag stream addr len data = violates l e s := by
  simp only [State.dataArrives, if_pos hup, hcheck, State.protocolError_eq_violates]

theorem State.dataArrives_accepts {st : DataStream} (hst : stream.val = st.val + 1)
    (hcheck : dataCheck (s.port l) tag stream addr len = none) :
    s.dataArrives l kind tag stream addr len data =
      s.setPort l (LinkPort.accept ⟨l, tag, kind, st, addr, len, data⟩ (s.port l)) := by
  simp only [State.dataArrives, if_pos hup, hcheck, hst, streamOf?_streamNum]
  rfl

end

/-- Settles O44: the three rows are one arrival, and each clause is the line of R164 that its conditions select. -/
theorem dataRequestAcceptedOrProtocolError : Obligations.DataRequestAcceptedOrProtocolError := by
  intro s l tag stream addr row kind len data hrow p badLen badRng
  have harrives : exec row s = .next (s.dataArrives l kind tag stream addr len data) := by
    obtain ⟨bytes, rfl, rfl, rfl, rfl⟩ | ⟨n, rfl, rfl, rfl, rfl⟩ | ⟨n, rfl, rfl, rfl, rfl⟩ := hrow <;> rfl
  rw [harrives]
  refine ⟨fun hdown => congrArg _ (State.dataArrives_discarded hdown), fun hup => ?_⟩
  have herror : ∀ {e : ErrorCause}, dataCheck p tag stream addr len = some e →
      (.next (s.dataArrives l kind tag stream addr len data) : Answer) = .next (violates l e s) :=
    fun hcheck => congrArg _ (State.dataArrives_violates hup hcheck)
  refine ⟨fun hzero => herror (dataCheck_streamZero hzero),
    fun hstream hlen => herror (dataCheck_badLength hstream hlen),
    fun hstream hlen hrange => herror (dataCheck_badRange hstream hlen hrange),
    fun hstream hlen hrange hcredit => herror (dataCheck_noCredit hstream hlen hrange hcredit),
    fun hstream hlen hrange hcredit htag => herror (dataCheck_duplicateTag hstream hlen hrange hcredit htag),
    fun st hst hlen hrange hcredit htag => congrArg _ (State.dataArrives_accepts hup hst ?_)⟩
  have hstream : stream ≠ 0 := fun h => by simp [h] at hst
  exact dataCheck_passes hstream hlen hrange hcredit htag

/-! ## The states of a link in the words of the statements (R160, R161, R172) -/

theorem State.send_linkReset (l : LinkId) (s : State) : s.send l .linkReset = sentOn l linkResetBytes s := rfl

theorem State.enterTraining_eq_trains (l : LinkId) (s : State) : s.enterTraining l = trains l s := rfl

theorem State.enterDisabled_eq_isDisabled (l : LinkId) (s : State) : s.enterDisabled l = isDisabled l s := rfl

theorem State.modPort_modPort (l : LinkId) (f g : LinkPort → LinkPort) (s : State) :
    (s.modPort l f).modPort l g = s.modPort l fun p => g (f p) := State.modPort_setPort l _ g s

/-- A link whose signal is present passes through DOWN: training writes every field that DOWN writes (R160). -/
theorem State.enterDown_eq_goesDown (l : LinkId) (s : State) : s.enterDown l = goesDown l s := by
  have htrain : (s.modPort l fun p =>
      { p with state := .down, helloTimer := none, handshakeTimer := none }).enterTraining l = trains l s := by
    rw [State.enterTraining, State.modPort_modPort]
    rfl
  rw [State.enterDown, goesDown, htrain]
  rfl

/-! ## Training (R161, R170) -/

section
variable {s : State} {l : LinkId}

theorem execHello_discarded (h : (s.port l).state ≠ .training) : execHello l s = .next s := by
  rw [execHello, if_neg h]

theorem execHello_comesUp (h : (s.port l).state = .training) :
    execHello l s = .next ((s.modPort l LinkPort.comeUp).raiseLink l .linkUp) := by
  rw [execHello, if_pos h]

theorem execSignalDetection_trains (h : (s.port l).state = .down) : execSignalDetection l s =
    .next (trains l (s.modPort l fun p => { p with signal := true })) := by
  simp only [execSignalDetection, if_pos h, State.enterTraining_eq_trains]

theorem execSignalDetection_recorded (h : (s.port l).state ≠ .down) : execSignalDetection l s =
    .next (s.modPort l fun p => { p with signal := true }) := by
  simp only [execSignalDetection, if_neg h]

/-- The next HELLO timer runs from the clock at the expiry (log 4, log 10). -/
theorem execHelloTimerExpiry_sends {t : Nat} (h : (s.port l).state = .training)
    (htimer : (s.port l).helloTimer = some t) : execHelloTimerExpiry l s =
      .next (sentOn l helloBytes ((s.reach t).modPort l fun p =>
        { p with helloTimer := some ((s.reach t).now + Config.helloPeriod) })) := by
  simp only [execHelloTimerExpiry, h, htimer, State.send_hello]

theorem execHandshakeTimerExpiry_trains {t : Nat} (h : (s.port l).state = .resetting)
    (htimer : (s.port l).handshakeTimer = some t) :
    execHandshakeTimerExpiry l s = .next (trains l (s.reach t)) := by
  simp only [execHandshakeTimerExpiry, h, htimer, State.enterTraining_eq_trains]

end

/-- Settles O45, event by event. -/
theorem trainingBringsLinkUp : Obligations.TrainingBringsLinkUp := by
  intro s l p
  exact ⟨execHello_discarded, execHello_comesUp, execSignalDetection_trains,
    fun h => execSignalDetection_recorded (ne_of_eq_of_ne h (by decide)),
    fun _ => execHelloTimerExpiry_sends, fun _ => execHandshakeTimerExpiry_trains⟩

/-! ## LINK_RESET, signal loss and unknown messages (R160, R168, R170) -/

section
variable {s : State} {l : LinkId}

theorem execLinkReset_up (h : (s.port l).state = .up) :
    execLinkReset l s = .next (trains l (sentOn l linkResetBytes (s.leaveUp l))) := by
  simp only [execLinkReset, h, State.send_linkReset, State.enterTraining_eq_trains]

theorem execLinkReset_resetting (h : (s.port l).state = .resetting) : execLinkReset l s = .next (trains l s) := by
  simp only [execLinkReset, h, State.enterTraining_eq_trains]

theorem execLinkReset_discarded
    (h : (s.port l).state = .disabled ∨ (s.port l).state = .down ∨ (s.port l).state = .training) :
    execLinkReset l s = .next s := by
  obtain h | h | h := h <;> simp only [execLinkReset, h]

theorem execSignalLoss_up (h : (s.port l).state = .up) : execSignalLoss l s =
    .next (goesDown l ((s.modPort l fun p => { p with signal := false }).leaveUp l)) := by
  simp only [execSignalLoss, h, State.enterDown_eq_goesDown]

theorem execSignalLoss_handshake (h : (s.port l).state = .training ∨ (s.port l).state = .resetting) :
    execSignalLoss l s = .next (goesDown l (s.modPort l fun p => { p with signal := false })) := by
  obtain h | h := h <;> simp only [execSignalLoss, h, State.enterDown_eq_goesDown]

theorem execSignalLoss_recorded (h : (s.port l).state = .disabled ∨ (s.port l).state = .down) :
    execSignalLoss l s = .next (s.modPort l fun p => { p with signal := false }) := by
  obtain h | h := h <;> simp only [execSignalLoss, h]

theorem execUnknownKind_up (h : (s.port l).state = .up) :
    execUnknownKind l s = .next (violates l .unknownKind s) := by
  rw [execUnknownKind, if_pos h, State.protocolError_eq_violates]

theorem execUnknownKind_discarded (h : (s.port l).state ≠ .up) : execUnknownKind l s = .next s := by
  rw [execUnknownKind, if_neg h]

end

/-- Settles O46, event by event. -/
theorem linkResetLossAndUnknownKind : Obligations.LinkResetLossAndUnknownKind := by
  intro s l p lost
  exact ⟨execLinkReset_up, execLinkReset_resetting, execLinkReset_discarded, execSignalLoss_up,
    execSignalLoss_handshake, execSignalLoss_recorded, execUnknownKind_up, execUnknownKind_discarded⟩

/-! ## LINK_SET (R172) -/

section
variable {s : State} {l : LinkId}

theorem State.linkEnable_disabled (h : (s.port l).state = .disabled) : s.linkEnable l = goesDown l s := by
  rw [State.linkEnable, if_pos h, State.enterDown_eq_goesDown]

theorem State.linkEnable_not_disabled (h : (s.port l).state ≠ .disabled) : s.linkEnable l = s := if_neg h

theorem State.linkDisable_disabled (h : (s.port l).state = .disabled) : s.linkDisable l = s := by
  simp only [State.linkDisable, h]

theorem State.linkDisable_enabled_not_up
    (h : (s.port l).state = .down ∨ (s.port l).state = .training ∨ (s.port l).state = .resetting) :
    s.linkDisable l = isDisabled l s := by
  obtain h | h | h := h <;> simp only [State.linkDisable, h, State.enterDisabled_eq_isDisabled]

theorem State.linkDisable_up (h : (s.port l).state = .up) :
    s.linkDisable l = isDisabled l (sentOn l linkResetBytes (s.leaveUp l)) := by
  simp only [State.linkDisable, h, State.send_linkReset, State.enterDisabled_eq_isDisabled]

theorem State.linkResetAction_up (h : (s.port l).state = .up) : s.linkResetAction l = resets l s := by
  rw [State.linkResetAction, if_pos h, State.partReset_eq_resets]

theorem State.linkResetAction_not_up (h : (s.port l).state ≠ .up) : s.linkResetAction l = s := if_neg h

end

/-- The state after the action of this number: 0 ENABLE, 1 DISABLE, 2 RESET (R172, R192). -/
def State.linkAction (action : Nat) (l : LinkId) (s : State) : State :=
  if action = 0 then s.linkEnable l else if action = 1 then s.linkDisable l else s.linkResetAction l

/-- The result word of LINK_SET: the state before in bits 2:0, the state after in bits 10:8 (R192). -/
theorem linkSetWord_eq (before after : Nat) : fieldWord 0 3 before ||| fieldWord 8 3 after =
    0#21 ++ BitVec.ofNat 3 after ++ 0#5 ++ BitVec.ofNat 3 before := by
  refine BitVec.eq_of_getLsbD_eq fun k hk => ?_
  simp only [BitVec.getLsbD_or, getLsbD_fieldWord_ofNat, BitVec.getLsbD_append]
  interval_cases k <;> simp

/-- An accepted LINK_SET acts on the link that its argument names, and answers the states before and after (R172). -/
theorem execLinkSet_accepts {s t : State} {c : Command} {l : LinkId} {action : Nat} (ht : takes 0x17 c s)
    (hl : argField c.args 0 0 8 = l.val) (haction : argField c.args 0 8 2 = action) (hle : action ≤ 2)
    (hacts : s.linkAction action l = t) : execLinkSet s = .next (commandDone c .ok
      [0#21 ++ BitVec.ofNat 3 (t.ports[l]).state.num ++ 0#5 ++ BitVec.ofNat 3 (s.ports[l]).state.num] t) := by
  subst haction hacts
  refine takeCommand_effects ht (if_neg ?fits) ?effect
  case fits => exact fun hbad => hbad.elim (not_three_lt_argLinkNo hl) hle.not_gt
  case effect =>
    rw [linkSetEffect, argLink_eq hl]
    simp only [linkSetWord_eq]
    rfl

/-- Settles O48: the row of R172's table that the action and the link's state select. -/
theorem linkSetActionTable : Obligations.LinkSetActionTable := by
  intro s c ht
  refine ⟨fun hbad => takeCommand_refuses ht (if_pos hbad), ?_⟩
  intro l hl st action gives
  have hgives : ∀ {n : Nat} {t : State}, action = n → n ≤ 2 → s.linkAction n l = t → gives t :=
    execLinkSet_accepts ht hl
  exact ⟨fun henable h => hgives henable (by omega) (State.linkEnable_disabled h),
    fun henable h => hgives henable (by omega) (State.linkEnable_not_disabled h),
    fun hdisable h => hgives hdisable (by omega) (State.linkDisable_disabled h),
    fun hdisable h => hgives hdisable (by omega) (State.linkDisable_enabled_not_up h),
    fun hdisable h => hgives hdisable (by omega) (State.linkDisable_up h),
    fun hreset h => hgives hreset (by omega) (State.linkResetAction_up h),
    fun hreset h => hgives hreset (by omega) (State.linkResetAction_not_up h)⟩

end Sys2Proof.Machine
end

section
/-! CERTIFICATES. The Event Unit (R181, R184, R185): the one latch that a cause sets, the summary bits and the interrupt
line by the latches and enables. -/

namespace Sys2Proof.Machine

/-! ## The latch of a cause (R181, R194) -/

/-- A word with bit `j` set beside its own bits. -/
theorem getLsbD_or_twoPow {w j : Nat} (hj : j < w) (x : BitVec w) (k : Nat) :
    (x ||| BitVec.twoPow w j).getLsbD k = (x.getLsbD k || decide (j = k)) := by
  simp [BitVec.getLsbD_twoPow, hj]

theorem DevEvent.bit_lt (e : DevEvent) : e.bit < 6 := by cases e <;> decide
theorem LinkEvent.bit_lt (e : LinkEvent) : e.bit < 4 := by cases e <;> decide
theorem DomEvent.bit_lt (e : DomEvent) : e.bit < 5 := by cases e <;> decide

theorem DevEvent.bit_inj {e f : DevEvent} : e.bit = f.bit ↔ e = f := by cases e <;> cases f <;> decide
theorem LinkEvent.bit_inj {e f : LinkEvent} : e.bit = f.bit ↔ e = f := by cases e <;> cases f <;> decide
theorem DomEvent.bit_inj {e f : DomEvent} : e.bit = f.bit ↔ e = f := by cases e <;> cases f <;> decide

section
variable (u : EventUnit)

theorem EventUnit.dev_raiseDev (e f : DevEvent) : (u.raiseDev e).dev f = (u.dev f || decide (e = f)) := by
  rw [EventUnit.dev, EventUnit.raiseDev, getLsbD_or_twoPow e.bit_lt, EventUnit.dev]
  simp only [DevEvent.bit_inj]

theorem EventUnit.link_raiseLink (l m : LinkId) (e f : LinkEvent) :
    (u.raiseLink l e).link m f = (u.link m f || (decide (l = m) && decide (e = f))) := by
  by_cases hlm : l = m
  · subst hlm
    simp [EventUnit.link, EventUnit.raiseLink, getLsbD_or_twoPow e.bit_lt, LinkEvent.bit_inj]
  · have hother : (u.raiseLink l e).linkLatch[m] = u.linkLatch[m] :=
      Vector.getElem_set_ne l.isLt m.isLt (Fin.val_ne_of_ne hlm)
    simp [EventUnit.link, hother, hlm]

theorem EventUnit.dom_raiseDom (d x : DomId) (e f : DomEvent) :
    (u.raiseDom d e).dom x f = (u.dom x f || (decide (d = x) && decide (e = f))) := by
  by_cases hdx : d = x
  · subst hdx
    simp [EventUnit.dom, EventUnit.raiseDom, getLsbD_or_twoPow e.bit_lt, DomEvent.bit_inj]
  · have hother : (u.raiseDom d e).domLatch[x] = u.domLatch[x] :=
      Vector.getElem_set_ne d.isLt x.isLt (Fin.val_ne_of_ne hdx)
    simp [EventUnit.dom, hother, hdx]

/-! ## Summary bits and the interrupt line (R184, R185) -/

/-- Latches and enables meet in some bit exactly when their conjunction is not 0. -/
theorem and_ne_zero_iff {w : Nat} (latch enable : BitVec w) : latch &&& enable ≠ 0 ↔
    ∃ k : Fin w, latch.getLsbD k.val = true ∧ enable.getLsbD k.val = true := by
  constructor
  · intro hne
    by_contra hnone
    refine hne (BitVec.eq_of_getLsbD_eq fun k hk => ?_)
    simpa using not_exists.1 hnone ⟨k, hk⟩
  · rintro ⟨k, hlatch, henable⟩ hzero
    have hbit : (latch &&& enable).getLsbD k.val = true := by rw [BitVec.getLsbD_and, hlatch, henable]; rfl
    simp [hzero] at hbit

/-- Bit `k` of the summary register is element `k` of the list of the links and the domains. -/
theorem EventUnit.getLsbD_summary {k : Nat} (hk : k < 20) : u.summary.getLsbD k =
    ((List.finRange 4).map u.linkPending ++ (List.finRange 16).map u.domPending).getD k false := by
  rw [EventUnit.summary, BitVec.getLsbD_ofNat, testBit_maskOf, decide_eq_true hk, Bool.true_and]

theorem EventUnit.summary_link (l : LinkId) : u.summary.getLsbD l.val = u.linkPending l := by
  rw [u.getLsbD_summary (by omega), List.getD_append _ _ _ _ (by simp)]
  simp

theorem EventUnit.summary_domain (d : DomId) : u.summary.getLsbD (4 + d.val) = u.domPending d := by
  rw [u.getLsbD_summary (by omega), List.getD_append_right _ _ _ _ (by simp)]
  simp

theorem EventUnit.interrupt_iff : u.interrupt = true ↔
    (u.devLatch &&& u.devEnable ≠ 0) ∨ u.summary &&& u.sumEnable ≠ 0 := by
  simp only [EventUnit.interrupt, Bool.or_eq_true, decide_eq_true_eq]

end

/-- Settles O12: the causes by their bit positions, the summary bits and the line by the bits that latches and enables
share. -/
theorem summaryAndInterruptFollowLatches : Obligations.SummaryAndInterruptFollowLatches := by
  intro u
  refine ⟨u.dev_raiseDev, u.link_raiseLink, u.dom_raiseDom, fun l => ?link, fun d => ?domain, ?line⟩
  case link => rw [u.summary_link, EventUnit.linkPending, decide_eq_true_eq, and_ne_zero_iff]
  case domain => rw [u.summary_domain, EventUnit.domPending, decide_eq_true_eq, and_ne_zero_iff]
  case line => rw [u.interrupt_iff, and_ne_zero_iff, and_ne_zero_iff]

end Sys2Proof.Machine
end

section
/-! SUPPORT. What one event can do to the latches: the relation that every set latch stays set (R181), and the shared
operations that keep it. -/

namespace Sys2Proof.Machine

/-! ## Latches that stay set -/

/-- Every latch set in `u` is set in `v`. -/
structure EventUnit.LatchesStay (u v : EventUnit) : Prop where
  dev : ∀ e, u.dev e = true → v.dev e = true
  link : ∀ l e, u.link l e = true → v.link l e = true
  dom : ∀ d e, u.dom d e = true → v.dom d e = true

theorem EventUnit.LatchesStay.refl (u : EventUnit) : u.LatchesStay u :=
  ⟨fun _ => id, fun _ _ => id, fun _ _ => id⟩

theorem EventUnit.LatchesStay.trans {u v w : EventUnit} (h : u.LatchesStay v) (h' : v.LatchesStay w) :
    u.LatchesStay w where
  dev e he := h'.dev e (h.dev e he)
  link l e he := h'.link l e (h.link l e he)
  dom d e he := h'.dom d e (h.dom d e he)

/-- A cause sets its device latch beside those that are set. -/
theorem EventUnit.latchesStay_raiseDev (e : DevEvent) (u : EventUnit) : u.LatchesStay (u.raiseDev e) where
  dev f hf := by rw [u.dev_raiseDev, hf, Bool.true_or]
  link _ _ := id
  dom _ _ := id

theorem EventUnit.latchesStay_raiseLink (l : LinkId) (e : LinkEvent) (u : EventUnit) :
    u.LatchesStay (u.raiseLink l e) where
  dev _ := id
  link m f hf := by rw [u.link_raiseLink, hf, Bool.true_or]
  dom _ _ := id

theorem EventUnit.latchesStay_raiseDom (d : DomId) (e : DomEvent) (u : EventUnit) :
    u.LatchesStay (u.raiseDom d e) where
  dev _ := id
  link _ _ := id
  dom x f hf := by rw [u.dom_raiseDom, hf, Bool.true_or]

/-- A write to an enable register changes no latch (R183). -/
theorem EventUnit.latchesStay_writeEnable (r : EventReg) (value : Word) (u : EventUnit) :
    u.LatchesStay (u.writeEnable r value) := by
  cases r <;> exact ⟨fun _ => id, fun _ _ => id, fun _ _ => id⟩

theorem EventUnit.latchesStay_sumEnable (sumEnable : BitVec 20) (u : EventUnit) :
    u.LatchesStay { u with sumEnable := sumEnable } := ⟨fun _ => id, fun _ _ => id, fun _ _ => id⟩

/-! ## From one state to another -/

/-- Every latch set in `s` is set in `t`. -/
def State.KeepsLatches (s t : State) : Prop := s.events.LatchesStay t.events

section
variable {s t u : State}

theorem State.KeepsLatches.refl (s : State) : s.KeepsLatches s := EventUnit.LatchesStay.refl _

theorem State.KeepsLatches.trans (h : s.KeepsLatches t) (h' : t.KeepsLatches u) : s.KeepsLatches u :=
  EventUnit.LatchesStay.trans h h'

theorem State.KeepsLatches.of_events (h : t.events = s.events) : s.KeepsLatches t := by
  rw [State.KeepsLatches, h]
  exact .refl _

theorem State.KeepsLatches.then_events (h : s.KeepsLatches t) (hu : u.events = t.events) : s.KeepsLatches u :=
  h.trans (.of_events hu)

theorem State.KeepsLatches.after_events (ht : t.events = s.events) (h : t.KeepsLatches u) : s.KeepsLatches u :=
  (State.KeepsLatches.of_events ht).trans h

theorem State.KeepsLatches.ite {p : Prop} [Decidable p] (ht : s.KeepsLatches t) (hu : s.KeepsLatches u) :
    s.KeepsLatches (if p then t else u) := by
  split
  · exact ht
  · exact hu

theorem State.KeepsLatches.foldl {α : Type} {f : State → α → State} (h : ∀ (s : State) a, s.KeepsLatches (f s a))
    (as : List α) (s : State) : s.KeepsLatches (as.foldl f s) := by
  induction as generalizing s with
  | nil => exact .refl s
  | cons a rest ih => exact (h s a).trans (ih _)

theorem State.KeepsLatches.raiseDev (h : s.KeepsLatches t) (e : DevEvent) : s.KeepsLatches (t.raiseDev e) :=
  h.trans (t.events.latchesStay_raiseDev e)

theorem State.KeepsLatches.raiseLink (h : s.KeepsLatches t) (l : LinkId) (e : LinkEvent) :
    s.KeepsLatches (t.raiseLink l e) := h.trans (t.events.latchesStay_raiseLink l e)

theorem State.KeepsLatches.raiseDom (h : s.KeepsLatches t) (d : DomId) (e : DomEvent) :
    s.KeepsLatches (t.raiseDom d e) := h.trans (t.events.latchesStay_raiseDom d e)

end

/-! ## References and tracker entries -/

theorem State.noteFreed_keepsLatches (d : DomId) (s : State) : s.KeepsLatches (s.noteFreed d) := by
  have hfreed : s.KeepsLatches (s.raiseDom d .windowFreed) := (State.KeepsLatches.refl s).raiseDom d _
  by_cases hlast : (s.domain d).state = .purging ∧ (s.domain d).drainingCount - 1 = 0
  · rw [State.noteFreed_last hlast]
    exact (hfreed.then_events (State.setDomain_events ..)).raiseDom d _
  · rw [State.noteFreed_not_last hlast]
    exact hfreed.then_events (State.setDomain_events ..)

theorem State.dropRef_keepsLatches (h : Handle) (s : State) : s.KeepsLatches (s.dropRef h) := by
  by_cases hg : (s.window h.slot).generation = h.generation
  · by_cases hlast : (s.window h.slot).state = .draining ∧ (s.window h.slot).refs - 1 = 0
    · rw [State.dropRef_last hg hlast]
      exact .after_events (State.clearSlot_events ..) (State.noteFreed_keepsLatches ..)
    · rw [State.dropRef_not_last hg hlast]
      exact .of_events (State.setWindow_events ..)
  · rw [State.dropRef_stale hg]
    exact .refl s

theorem State.endEntry_keepsLatches (fate : TagFate) (l : LinkId) (e : EntryNo) (s : State) :
    s.KeepsLatches (s.endEntry fate l e) := by
  cases hx : s.entry l e with
  | free =>
    rw [State.endEntry_free hx]
    exact .refl s
  | waitTag r =>
    rw [State.endEntry_waitTag hx]
    exact .after_events (by simp) (State.dropRef_keepsLatches ..)
  | issued r g dl =>
    rw [State.endEntry_issued hx]
    exact .after_events (by simp) (State.dropRef_keepsLatches ..)

theorem State.endWithReply_keepsLatches (fate : TagFate) (answer : EntryReq → DataAnswer) (l : LinkId) (e : EntryNo)
    (s : State) : s.KeepsLatches (s.endWithReply fate answer l e) := by
  obtain hx | ⟨r, hr⟩ := (s.entry l e).free_or_request
  · rw [State.endWithReply_free hx]
    exact .refl s
  · rw [State.endWithReply_request hr]
    exact (s.endEntry_keepsLatches fate l e).then_events (State.handData_events ..)

theorem State.endAll_keepsLatches (les : List (LinkId × EntryNo)) (s : State) : s.KeepsLatches (s.endAll les) := by
  unfold State.endAll
  exact .foldl (fun s le => s.endWithReply_keepsLatches _ _ le.1 le.2) les s

theorem State.endLinkEntries_keepsLatches (l : LinkId) (s : State) : s.KeepsLatches (s.endLinkEntries l) :=
  (State.KeepsLatches.foldl (fun s e => s.endEntry_keepsLatches .quarantined l e) (List.finRange 8) s).then_events
    (State.setWaiting_events ..)

/-! ## Links -/

theorem State.leaveUp_keepsLatches (l : LinkId) (s : State) : s.KeepsLatches (s.leaveUp l) := by
  have hreset := (s.endLinkEntries_keepsLatches l).raiseLink l .linkReset
  unfold State.KeepsLatches
  rw [State.events_leaveUp]
  split
  · exact hreset.raiseDev .quarantine
  · exact hreset

theorem State.partReset_keepsLatches (l : LinkId) (s : State) : s.KeepsLatches (s.partReset l) :=
  (s.leaveUp_keepsLatches l).then_events (by simp [State.partReset])

theorem State.protocolError_keepsLatches (l : LinkId) (c : ErrorCause) (s : State) :
    s.KeepsLatches (s.protocolError l c) :=
  ((State.KeepsLatches.of_events (State.modPort_events ..)).raiseLink l .protocol).trans
    (State.partReset_keepsLatches l _)

/-! ## The changes of a resolution -/

theorem State.countFault_keepsLatches (d : DomId) (kind : FaultKind) (q : Request) (s : State) :
    s.KeepsLatches (s.countFault d kind q) := by
  unfold State.countFault
  refine .ite ?halts (.of_events (State.setDomain_events ..))
  case halts =>
    exact ((State.KeepsLatches.of_events (State.setDomain_events ..)).raiseDom d .domainHalted).then_events
      (State.pendNotice_events ..)

theorem State.setAlert_keepsLatches (i : SlotId) (s : State) : s.KeepsLatches (s.setAlert i) := by
  unfold State.setAlert
  exact .ite (.refl s) ((State.KeepsLatches.of_events (State.setWindow_events ..)).raiseDom _ _)

theorem State.noteUnbound_keepsLatches (l : LinkId) (st : DataStream) (s : State) :
    s.KeepsLatches (s.noteUnbound l st) := by
  unfold State.noteUnbound
  exact .ite ((State.KeepsLatches.of_events (State.modPort_events ..)).raiseLink l .unbound)
    (.of_events (State.modPort_events ..))

theorem State.charge_keepsLatches (i : SlotId) (len : Nat) (s : State) : s.KeepsLatches (s.charge i len) := by
  unfold State.charge
  dsimp only
  split
  · exact .of_events (State.setWindow_events ..)
  · exact .ite (.after_events (State.setWindow_events ..) (State.setAlert_keepsLatches i _))
      (.of_events (State.setWindow_events ..))

theorem State.resolutionChanges_keepsLatches (q : Request) (r : Ruling) (s : State) :
    s.KeepsLatches (s.resolutionChanges q r) := by
  have hplain : s.KeepsLatches (s.plainChanges q r) := by
    unfold State.plainChanges
    split
    case h_2 => exact s.noteUnbound_keepsLatches ..
    case h_4 | h_8 | h_9 => exact s.countFault_keepsLatches ..
    case h_11 => exact s.setAlert_keepsLatches ..
    case h_12 => exact s.charge_keepsLatches ..
    all_goals exact .refl s
  have hspec : s.KeepsLatches (s.specChanges q r) := by
    unfold State.specChanges
    split
    · exact s.charge_keepsLatches ..
    · exact .refl s
  unfold State.resolutionChanges
  split
  · exact hplain
  · exact hplain
  · exact hspec

end Sys2Proof.Machine
end

section
/-! CERTIFICATES. The latches over every event: no row but a write-1 clear or a reset of the part clears one (R181,
R186). -/

namespace Sys2Proof.Machine

/-! ## The takings at the engine -/

/-- A taking of a command sets CMD_DONE beside what its row sets (R131). -/
theorem takeCommand_keepsLatches {mine : BitVec 8 → Bool} {act : Args → State → Done} {s t : State}
    (hact : ∀ a, s.KeepsLatches (act a s).state) (h : takeCommand mine act s = .next t) : s.KeepsLatches t := by
  obtain rfl | ⟨c, -, -, -, rfl⟩ := takeCommand_cases h
  · exact .refl _
  · exact ((hact c.args).raiseDev .cmdDone).then_events (finishCommand_events ..)

theorem takeControl_keepsLatches {op : CtlOp} {act : CtlRequest → State → CtlDone} {s t : State}
    (hact : ∀ q, s.KeepsLatches (act q s).state) (h : takeControl op act s = .next t) : s.KeepsLatches t := by
  obtain rfl | ⟨q, rest, -, -, -, rfl⟩ := takeControl_cases h
  · exact .refl _
  · exact (hact q).then_events (finishControl_events ..)

/-- The taking of a command that leaves the Event Unit sets CMD_DONE alone (R131). -/
theorem takeCommand_keepsLatches_of_events {mine : BitVec 8 → Bool} {act : Args → State → Done} {s t : State}
    (hact : ∀ a, (act a s).state.events = s.events) (h : takeCommand mine act s = .next t) : s.KeepsLatches t :=
  takeCommand_keepsLatches (fun a => .of_events (hact a)) h

theorem checked_keepsLatches {check : Option ResultCode} {effect : Unit → Done} {s : State}
    (h : s.KeepsLatches (effect ()).state) : s.KeepsLatches (Done.checked check effect s).state := by
  cases check with
  | none => exact h
  | some c => exact .refl s

theorem checked_events {check : Option ResultCode} {effect : Unit → Done} {s : State}
    (h : (effect ()).state.events = s.events) : (Done.checked check effect s).state.events = s.events := by
  cases check with
  | none => exact h
  | some c => rfl

/-! ## Commands that leave the Event Unit -/

section
variable (a : Args) (s : State)

theorem installAct_events : (installAct a s).state.events = s.events := by
  refine checked_events ?_
  unfold installEffect
  dsimp only
  split <;> rfl

theorem replaceAct_events : (replaceAct a s).state.events = s.events := by
  refine checked_events ?_
  unfold replaceEffect
  dsimp only
  split
  · rfl
  · exact State.removeWindow_events ..

theorem retireAct_events : (retireAct a s).state.events = s.events :=
  checked_events ((State.noticeIfSelf_events ..).trans (State.removeWindow_events ..))

theorem suspendAct_events : (suspendAct a s).state.events = s.events :=
  checked_events ((State.noticeIfSelf_events ..).trans (State.setWindow_events ..))

theorem resumeAct_events : (resumeAct a s).state.events = s.events :=
  checked_events ((State.noticeIfSelf_events ..).trans (State.setWindow_events ..))

theorem State.events_removeAll (d : DomId) : (s.removeAll d).events = s.events := by
  rw [State.removeAll_tables]

theorem purgeAct_events : (purgeAct a s).state.events = s.events := by
  refine checked_events ?_
  have hleft : ((s.removeAll (argDom a)).unbindAll (argDom a)).events = s.events := s.events_removeAll _
  unfold purgeEffect
  dsimp only
  split <;> exact hleft

theorem bindAct_events : (bindAct a s).state.events = s.events := by
  refine checked_events ?_
  unfold bindEffect
  split <;> rfl

theorem unbindAct_events : (unbindAct a s).state.events = s.events := by
  refine checked_events ?_
  unfold unbindEffect
  split <;> rfl

theorem streamSetAct_events : (streamSetAct a s).state.events = s.events := by
  refine checked_events ?_
  unfold streamSetEffect
  split <;> rfl

theorem probeAct_events : (probeAct a s).state.events = s.events := by
  refine checked_events ?_
  unfold probeEffect
  split <;> rfl

end

/-! ## TARGET_SET, LINK_SET and the control requests -/

/-- The entries that end drop references, which may set WINDOW_FREED and DOMAIN_PURGED (log 22). -/
theorem targetSetAct_keepsLatches (a : Args) (s : State) : s.KeepsLatches (targetSetAct a s).state := by
  refine checked_keepsLatches ?_
  unfold targetSetEffect
  dsimp only
  split
  · exact .refl s
  · exact .refl s
  · exact (s.endAll_keepsLatches _).then_events (State.setTarget_events ..)
  · exact (s.endAll_keepsLatches _).then_events rfl

theorem State.linkDisable_keepsLatches (l : LinkId) (s : State) : s.KeepsLatches (s.linkDisable l) := by
  unfold State.linkDisable
  split
  case h_1 => exact .refl s
  case h_2 => exact (s.leaveUp_keepsLatches l).then_events (by simp)
  all_goals exact .of_events (State.enterDisabled_events ..)

theorem linkSetAct_keepsLatches (a : Args) (s : State) : s.KeepsLatches (linkSetAct a s).state :=
  checked_keepsLatches (.ite (.ite (.of_events (State.enterDown_events ..)) (.refl s))
    (.ite (s.linkDisable_keepsLatches _) (.ite (s.partReset_keepsLatches _) (.refl s))))

theorem openAct_keepsLatches (q : CtlRequest) (s : State) : s.KeepsLatches (openAct q s).state := by
  unfold openAct
  split
  · exact .refl s
  · next d _ =>
    unfold openEffect
    split
    · exact ((State.KeepsLatches.of_events rfl).raiseDom d _).then_events (State.pendNotice_events ..)
    · exact .refl s

theorem closeAct_keepsLatches (q : CtlRequest) (s : State) : s.KeepsLatches (closeAct q s).state := by
  unfold closeAct
  split
  · exact .refl s
  · next d i _ =>
    have hremoved : s.KeepsLatches (s.removeWindow d i) := .of_events (State.removeWindow_events ..)
    exact (hremoved.raiseDom d _).then_events (State.pendNotice_events ..)

theorem narrowAct_keepsLatches (q : CtlRequest) (s : State) : s.KeepsLatches (narrowAct q s).state := by
  unfold narrowAct
  split
  · exact .refl s
  · next d i _ =>
    exact ((State.KeepsLatches.of_events (State.setWindow_events ..)).raiseDom d _).then_events
      (State.pendNotice_events ..)

theorem statusAct_keepsLatches (q : CtlRequest) (s : State) : s.KeepsLatches (statusAct q s).state := by
  unfold statusAct
  split <;> exact .refl s

/-! ## An examination and the fabric side -/

theorem State.examine_keepsLatches (l : LinkId) (e : EntryNo) (q : Request) (rest : List Request) (s : State) :
    s.KeepsLatches (s.examine l e q rest) := by
  have hchanges : s.KeepsLatches ((s.modPort l fun p => { p with ingress := rest }).resolutionChanges q (s.ruling q)) :=
    .after_events (State.modPort_events ..) (State.resolutionChanges_keepsLatches ..)
  unfold State.examine
  dsimp only
  split
  · exact hchanges.then_events (State.handData_events ..)
  · exact hchanges.then_events (State.handData_events ..)
  · split
    · exact hchanges
    · exact hchanges.then_events rfl

theorem execExamination_keepsLatches {l : LinkId} {s t : State} (h : execExamination l s = .next t) :
    s.KeepsLatches t := by
  unfold execExamination at h
  split at h
  · split at h <;> cases h
    · exact s.examine_keepsLatches ..
    · exact .refl s
  · cases h
    exact .refl s

theorem execGrant_keepsLatches {s t : State} (h : execGrant s = .next t) : s.KeepsLatches t := by
  unfold execGrant at h
  split at h
  · split at h
    · cases h
      exact .refl s
    · split at h <;> cases h <;> exact .of_events rfl
  · cases h
    exact .refl s

theorem execCompletion_keepsLatches {tag : Nat} {st : CompletionStatus} {data : List Byte} {s t : State}
    (h : execCompletion tag st data s = .next t) : s.KeepsLatches t := by
  unfold execCompletion at h
  split at h
  · split at h <;> cases h
    · exact (State.KeepsLatches.refl s).raiseDev _
    · exact (State.KeepsLatches.of_events (State.setTag_events ..)).raiseDev _
    · exact s.endWithReply_keepsLatches ..
  · cases h
    exact (State.KeepsLatches.refl s).raiseDev _

theorem execDeadlineExpiry_keepsLatches {l : LinkId} {e : EntryNo} {s t : State}
    (h : execDeadlineExpiry l e s = .next t) : s.KeepsLatches t := by
  unfold execDeadlineExpiry at h
  split at h <;> cases h
  · next deadline _ =>
    have hended : s.KeepsLatches ((s.reach deadline).endWithReply .quarantined (fun _ => .refused .timeout) l e) :=
      .after_events (by rfl) (State.endWithReply_keepsLatches ..)
    exact hended.raiseDev _
  · exact .refl s
  · exact .refl s

/-! ## Messages, the signal and the timers -/

theorem State.dataArrives_keepsLatches (l : LinkId) (kind : ReqKind) (tag : PeerTag) (stream : StreamNo)
    (addr : InAddr) (len : Nat) (data : Option (List Byte)) (s : State) :
    s.KeepsLatches (s.dataArrives l kind tag stream addr len data) := by
  refine .ite ?_ (.refl s)
  split
  · exact .of_events (State.modPort_events ..)
  · exact s.protocolError_keepsLatches ..
  · exact s.protocolError_keepsLatches ..

theorem State.ctlArrives_keepsLatches (l : LinkId) (tag : CtlTag) (byte2 op : Byte) (body : List Byte) (s : State) :
    s.KeepsLatches (s.ctlArrives l tag byte2 op body) := by
  unfold State.ctlArrives
  refine .ite (s.protocolError_keepsLatches ..) (.ite (s.protocolError_keepsLatches ..) ?_)
  split
  · exact .of_events rfl
  · exact .ite (.of_events rfl) (.ite ((State.KeepsLatches.of_events rfl).raiseDev _) (.of_events rfl))

theorem execNoticeAck_keepsLatches {l : LinkId} {s t : State} (h : execNoticeAck l s = .next t) :
    s.KeepsLatches t := by
  cases h
  refine .ite ?_ (.refl s)
  split
  · exact .of_events (State.modPort_events ..)
  · exact s.protocolError_keepsLatches ..
  · exact .refl s

theorem execLinkReset_keepsLatches {l : LinkId} {s t : State} (h : execLinkReset l s = .next t) :
    s.KeepsLatches t := by
  cases h
  split
  case h_1 => exact (s.leaveUp_keepsLatches l).then_events (by simp)
  case h_2 => exact .of_events (State.enterTraining_events ..)
  all_goals exact .refl s

theorem execSignalLoss_keepsLatches {l : LinkId} {s t : State} (h : execSignalLoss l s = .next t) :
    s.KeepsLatches t := by
  cases h
  have hlost : s.KeepsLatches (s.modPort l fun p => { p with signal := false }) :=
    .of_events (State.modPort_events ..)
  split
  · exact hlost
  · exact hlost
  · exact hlost.then_events (State.enterDown_events ..)
  · exact (hlost.trans (State.leaveUp_keepsLatches l _)).then_events (State.enterDown_events ..)
  · exact hlost.then_events (State.enterDown_events ..)

theorem execHelloTimerExpiry_keepsLatches {l : LinkId} {s t : State} (h : execHelloTimerExpiry l s = .next t) :
    s.KeepsLatches t := by
  cases h
  split <;> exact .of_events rfl

theorem execHandshakeTimerExpiry_keepsLatches {l : LinkId} {s t : State}
    (h : execHandshakeTimerExpiry l s = .next t) : s.KeepsLatches t := by
  cases h
  split <;> exact .of_events rfl

theorem execSendDataReply_keepsLatches {l : LinkId} {tag : PeerTag} {s t : State}
    (h : execSendDataReply l tag s = .next t) : s.KeepsLatches t := by
  cases h
  refine .ite ?_ (.refl s)
  split <;> exact .of_events rfl

theorem execSendCtlReply_keepsLatches {l : LinkId} {tag : CtlTag} {s t : State}
    (h : execSendCtlReply l tag s = .next t) : s.KeepsLatches t := by
  cases h
  refine .ite ?_ (.refl s)
  split <;> exact .of_events rfl

theorem State.writeCmdIssue_keepsLatches (value : Word) (s : State) : s.KeepsLatches (s.writeCmdIssue value) := by
  unfold State.writeCmdIssue
  split
  · exact (State.KeepsLatches.refl s).raiseDev _
  · exact .of_events rfl

/-! ## Every event -/

/-- Every row leaves every set latch set, but the clear, the resets, and the bus write, which may act as one of them
(log 13). -/
theorem exec_keepsLatches {c : Instr} {s t : State} (h : exec c s = .next t) (hclear : ∀ r v, c ≠ .eventClear r v)
    (hpower : c ≠ .powerOnReset) (hdevice : c ≠ .deviceReset) (hwrite : ∀ off w v, c ≠ .registerWrite off w v) :
    s.KeepsLatches t := by
  cases c with
  | install => exact takeCommand_keepsLatches_of_events (installAct_events · s) h
  | replace => exact takeCommand_keepsLatches_of_events (replaceAct_events · s) h
  | retire => exact takeCommand_keepsLatches_of_events (retireAct_events · s) h
  | suspend => exact takeCommand_keepsLatches_of_events (suspendAct_events · s) h
  | resume => exact takeCommand_keepsLatches_of_events (resumeAct_events · s) h
  | purge => exact takeCommand_keepsLatches_of_events (purgeAct_events · s) h
  | bind => exact takeCommand_keepsLatches_of_events (bindAct_events · s) h
  | unbind => exact takeCommand_keepsLatches_of_events (unbindAct_events · s) h
  | streamSet => exact takeCommand_keepsLatches_of_events (streamSetAct_events · s) h
  | probe => exact takeCommand_keepsLatches_of_events (probeAct_events · s) h
  | setBudget | readWindow | domainOpen | domainSet | setFence | freeze | thaw | halt | release | readDomain | readChain
  | setTimeout =>
    refine takeCommand_keepsLatches_of_events ?_ h
    exact fun _ => checked_events rfl
  | badCommand => exact takeCommand_keepsLatches_of_events (fun _ => rfl) h
  | targetSet => exact takeCommand_keepsLatches (targetSetAct_keepsLatches · s) h
  | linkSet => exact takeCommand_keepsLatches (linkSetAct_keepsLatches · s) h
  | openWindow => exact takeControl_keepsLatches (openAct_keepsLatches · s) h
  | closeWindow => exact takeControl_keepsLatches (closeAct_keepsLatches · s) h
  | narrow => exact takeControl_keepsLatches (narrowAct_keepsLatches · s) h
  | status => exact takeControl_keepsLatches (statusAct_keepsLatches · s) h
  | ctl =>
    cases h
    exact .ite (s.ctlArrives_keepsLatches ..) (.refl s)
  | wr | rd | rds =>
    cases h
    exact s.dataArrives_keepsLatches ..
  | hello l =>
    cases h
    exact .ite ((State.KeepsLatches.of_events (State.modPort_events ..)).raiseLink l _) (.refl s)
  | unknownKind =>
    cases h
    exact .ite (s.protocolError_keepsLatches ..) (.refl s)
  | signalDetection | notice =>
    cases h
    exact .ite (.of_events rfl) (.of_events rfl)
  | noticeAck => exact execNoticeAck_keepsLatches h
  | linkReset => exact execLinkReset_keepsLatches h
  | signalLoss => exact execSignalLoss_keepsLatches h
  | helloTimerExpiry => exact execHelloTimerExpiry_keepsLatches h
  | handshakeTimerExpiry => exact execHandshakeTimerExpiry_keepsLatches h
  | examination => exact execExamination_keepsLatches h
  | grant => exact execGrant_keepsLatches h
  | completion => exact execCompletion_keepsLatches h
  | deadlineExpiry => exact execDeadlineExpiry_keepsLatches h
  | sendDataReply => exact execSendDataReply_keepsLatches h
  | sendCtlReply => exact execSendCtlReply_keepsLatches h
  | cmdIssue value =>
    cases h
    exact s.writeCmdIssue_keepsLatches value
  | eventEnableWrite r value =>
    cases h
    exact s.events.latchesStay_writeEnable r value
  | unboundSetRemove =>
    cases h
    exact .of_events (State.modPort_events ..)
  | summaryEnableWrite =>
    cases h
    exact s.events.latchesStay_sumEnable _
  | eventClear r v => exact absurd rfl (hclear r v)
  | powerOnReset => exact absurd rfl hpower
  | deviceReset => exact absurd rfl hdevice
  | registerWrite off w v => exact absurd rfl (hwrite off w v)

/-- Settles O13: every such row sets latches or leaves the Event Unit. -/
theorem latchesStaySetUntilCleared : Obligations.LatchesStaySetUntilCleared := by
  intro c s t hexec hclear hpower hdevice hwrite
  obtain ⟨hdev, hlink, hdom⟩ := exec_keepsLatches hexec hclear hpower hdevice hwrite
  exact ⟨hdev, hlink, hdom⟩

end Sys2Proof.Machine
end

section
/-! CERTIFICATES. The step on a queue that holds an event (log 1). -/

namespace Sys2Proof.Machine

/-- Settles O1: the queue's form selects the first branch of `step`, which takes the front and leaves the rest waiting. -/
theorem stepRunsFrontCommand : Obligations.StepRunsFrontCommand := by
  intro s c rest hqueue
  unfold step
  rw [hqueue]

end Sys2Proof.Machine
end
